-- ==== Sys2Proof/Word.lean ====
section
/-!
DEFINITION. The widths of the frame codec block (FCB): spec/00_scope.md R7 (DATA_BITS, CSUM_BITS 7; WIRE_BITS, CNT_BITS 8;
CMD_BITS 12; RESULT_BITS 16), bit numbering as in R9 (bit 0 is the least significant bit).
Every value is unsigned (R9); nothing is sign-extended (R10, R62).
-/

namespace Sys2Proof

/-- A character: a 7-bit code, bits [6:0] of a wire byte (R12, R80). The checksum has the same width (R7, R83). -/
abbrev Char7 := BitVec 7

/-- A wire byte, or the data field of a command word (R70, R80). -/
abbrev Byte := BitVec 8

/-- A command word `CMD[11:0]` (R70). -/
abbrev CmdWord := BitVec 12

end Sys2Proof
end

