-- ==== Sys2Proof/Syntax.lean ====
section
/-!
DEFINITION. The instructions (commands) of the FCB: one constructor per row of spec/opcode_table.json (R73), each with the
data field `D` of its command word (R70).
The data field stands in every constructor, also where it must be zero, because the spec gives the words that break the
data rule an effect of their own: the command raises a command error (R74, R75).
-/

namespace Sys2Proof

/-- A command. The argument is the data field `D[7:0]`. -/
inductive Instr where
  /-- OP 0x0 `NOP` (R170). -/
  | nop (d : Byte)
  /-- OP 0x1 `ENC_INIT` (R121). -/
  | encInit (d : Byte)
  /-- OP 0x2 `ENC_PUSH d` (R122). -/
  | encPush (d : Byte)
  /-- OP 0x3 `ENC_FINISH` (R123). -/
  | encFinish (d : Byte)
  /-- OP 0x4 `DEC_INIT d` (R141). -/
  | decInit (d : Byte)
  /-- OP 0x5 `DEC_PUSH b` (R143). -/
  | decPush (d : Byte)
  /-- OP 0x6 `DEC_CHECK` (R145). -/
  | decCheck (d : Byte)
  /-- OP 0x7 `PACK d` (R124). -/
  | pack (d : Byte)
  /-- OP 0x8 `LOOKUP d` (R147). -/
  | lookup (d : Byte)
  /-- OP 0x9 `CFG d` (R172). -/
  | cfg (d : Byte)
  /-- OP 0xA `CLRERR` (R173). -/
  | clrerr (d : Byte)
  /-- OP 0xB, reserved (R175). -/
  | reservedB (d : Byte)
  /-- OP 0xC, reserved (R175). -/
  | reservedC (d : Byte)
  /-- OP 0xD, reserved (R175). -/
  | reservedD (d : Byte)
  /-- OP 0xE, reserved (R175). -/
  | reservedE (d : Byte)
  /-- OP 0xF `SRESET` (R174). -/
  | sreset (d : Byte)
deriving DecidableEq, Repr

/-- The data field `D` of a command. -/
def Instr.data : Instr → Byte
  | .nop d => d
  | .encInit d => d
  | .encPush d => d
  | .encFinish d => d
  | .decInit d => d
  | .decPush d => d
  | .decCheck d => d
  | .pack d => d
  | .lookup d => d
  | .cfg d => d
  | .clrerr d => d
  | .reservedB d => d
  | .reservedC d => d
  | .reservedD d => d
  | .reservedE d => d
  | .sreset d => d

/-- The commands of spec/41_encoder.md: ENC_INIT, ENC_PUSH, ENC_FINISH, PACK. -/
def Instr.isEncoder : Instr → Bool
  | .encInit _ => true
  | .encPush _ => true
  | .encFinish _ => true
  | .pack _ => true
  | .nop _ => false
  | .decInit _ => false
  | .decPush _ => false
  | .decCheck _ => false
  | .lookup _ => false
  | .cfg _ => false
  | .clrerr _ => false
  | .reservedB _ => false
  | .reservedC _ => false
  | .reservedD _ => false
  | .reservedE _ => false
  | .sreset _ => false

/-- The commands of spec/42_decoder.md: DEC_INIT, DEC_PUSH, DEC_CHECK, LOOKUP. -/
def Instr.isDecoder : Instr → Bool
  | .decInit _ => true
  | .decPush _ => true
  | .decCheck _ => true
  | .lookup _ => true
  | .nop _ => false
  | .encInit _ => false
  | .encPush _ => false
  | .encFinish _ => false
  | .pack _ => false
  | .cfg _ => false
  | .clrerr _ => false
  | .reservedB _ => false
  | .reservedC _ => false
  | .reservedD _ => false
  | .reservedE _ => false
  | .sreset _ => false

end Sys2Proof
end

