-- ==== Sys2Proof/WellFormed.lean ====
section
/-!
DEFINITION. Well-formed commands: those whose word is a legal word of the opcode map in some mask mode (R74, R75, R76).
A command that is not well-formed still has a meaning (it raises a command error): this check says which words a host may
issue, and the name of what is wrong with the others.
-/

namespace Sys2Proof

/-- Why a command is not well-formed, under the name of the error it raises (R191). -/
inductive IllFormed where
  /-- A reserved operation code, 0xB to 0xE (R75). -/
  | reservedOp
  /-- A data field or reserved bits that must be zero are not (R74). -/
  | reservedField
  /-- DEC_INIT with a value that is neither 0x00 nor a reply-table letter (R74, R87). -/
  | unknownCmd
deriving DecidableEq, Repr

/-- The data bytes of the seven legal DEC_INIT words 0x400, 0x456, 0x453, 0x44C, 0x458, 0x457, 0x452 (R76). -/
def legalDecInitData : List Byte := [0x00, 0x56, 0x53, 0x4C, 0x58, 0x57, 0x52]

/-- "must be 0x00" (R74). -/
def zeroData (d : Byte) : Option IllFormed := if d = 0x00 then none else some .reservedField

/-- What is wrong with a command whatever the mask mode, by name; `none` for a legal word (R74, R76). -/
def illFormed : Instr → Option IllFormed
  | .nop d => zeroData d
  | .encInit d => zeroData d
  | .encPush _ => none
  | .encFinish d => zeroData d
  | .decInit d => if d ∈ legalDecInitData then none else some .unknownCmd
  | .decPush _ => none
  | .decCheck d => zeroData d
  | .pack _ => none
  | .lookup _ => none
  | .cfg d => if d = 0x00 ∨ d = 0x01 then none else some .reservedField
  | .clrerr d => zeroData d
  | .reservedB _ => some .reservedOp
  | .reservedC _ => some .reservedOp
  | .reservedD _ => some .reservedOp
  | .reservedE _ => some .reservedOp
  | .sreset d => zeroData d

/-- A command is well-formed when nothing is wrong with it. -/
abbrev WellFormed (i : Instr) : Prop := illFormed i = none

end Sys2Proof
end

