-- ==== Sys2Proof/Decode.lean ====
section
/-!
DEFINITION. The command decoder and, after it, the encoder, both written from the opcode map R73 and the field layout R70:
`OP` is bits [11:8] and `D` is bits [7:0].
The decoder is total (R75): every one of the 4096 words is one command, and a command whose data field breaks its rule is
refused by its own meaning, with the error R74 names.
-/

namespace Sys2Proof

/-- The `D` field, bits [7:0] (R70). -/
def dataField (w : CmdWord) : Byte := w.extractLsb' 0 8

/-- The command a word stands for: the arms list the bits 11, 10, 9, 8 of `OP` in the order of R73. -/
def decode (w : CmdWord) : Instr :=
  match w[11], w[10], w[9], w[8] with
  | false, false, false, false => .nop (dataField w)
  | false, false, false, true => .encInit (dataField w)
  | false, false, true, false => .encPush (dataField w)
  | false, false, true, true => .encFinish (dataField w)
  | false, true, false, false => .decInit (dataField w)
  | false, true, false, true => .decPush (dataField w)
  | false, true, true, false => .decCheck (dataField w)
  | false, true, true, true => .pack (dataField w)
  | true, false, false, false => .lookup (dataField w)
  | true, false, false, true => .cfg (dataField w)
  | true, false, true, false => .clrerr (dataField w)
  | true, false, true, true => .reservedB (dataField w)
  | true, true, false, false => .reservedC (dataField w)
  | true, true, false, true => .reservedD (dataField w)
  | true, true, true, false => .reservedE (dataField w)
  | true, true, true, true => .sreset (dataField w)

/-- Why a number is no command word. -/
inductive NotACommand where
  /-- A bit above bit 11 is set: the command port has twelve bits (R70). -/
  | tooWide
deriving DecidableEq, Repr

/-- The decoder on any number: the command of a twelve-bit word, and a refusal by name for anything wider. -/
def decodeNat (n : Nat) : Except NotACommand Instr :=
  if n < 4096 then .ok (decode (BitVec.ofNat 12 n)) else .error .tooWide

/-- The host's view of the decoder: the command read from the low `nbits` bits of `w`, every bit above them 0. -/
def decodeTableWord (nbits w : Nat) : Option Instr :=
  match decodeNat (w % 2 ^ nbits) with
  | .ok i => some i
  | .error _ => none

/-- The operation code of a command (R73). -/
def opcode : Instr → BitVec 4
  | .nop _ => 0x0
  | .encInit _ => 0x1
  | .encPush _ => 0x2
  | .encFinish _ => 0x3
  | .decInit _ => 0x4
  | .decPush _ => 0x5
  | .decCheck _ => 0x6
  | .pack _ => 0x7
  | .lookup _ => 0x8
  | .cfg _ => 0x9
  | .clrerr _ => 0xA
  | .reservedB _ => 0xB
  | .reservedC _ => 0xC
  | .reservedD _ => 0xD
  | .reservedE _ => 0xE
  | .sreset _ => 0xF

/-- The word of a command: `OP << 8 | D` (R90). -/
def encode (i : Instr) : CmdWord := opcode i ++ i.data

end Sys2Proof
end

