-- ==== Sys2Proof/Config.lean ====
section
/-!
DEFINITION. What a build of the FCB fixes: the parity sense (R7, R8, conflict C1) and the mask mode after reset (R7, R41,
conflict C4). The spec leaves no value open, so there is no free value here.
-/

namespace Sys2Proof

/-- The build parameter `PARITY_SENSE` (R8). -/
inductive ParitySense where
  /-- The normative sense: the eight bits of a wire byte hold an odd number of 1 bits. -/
  | odd
  /-- The literal wording of the source's encode step 3, for comparison only: bit 7 is the XOR fold itself. -/
  | evenLiteral
deriving DecidableEq, Repr

/-- The two values of `CFG_MASKMODE` (R41): what the encoder does with a data byte whose bit 7 is 1. -/
inductive MaskMode where
  /-- 0, `MASK`: bit 7 is dropped and the low seven bits are used. -/
  | mask
  /-- 1, `REJECT`: the command fails with `DATA_NOT_7BIT`. -/
  | reject
deriving DecidableEq, Repr

/-- FCB-1 is built with `PARITY_SENSE = ODD` ("a conforming FCB uses `ODD`", R8). -/
def Config.paritySense : ParitySense := .odd

/-- The reset value of `CFG_MASKMODE` (R7, R41): `MASK`. -/
def Config.maskModeReset : MaskMode := .mask

/-- `LINK_BAUD` (spec/92_eei_decisions.md D26): a parameter of the external transport. "The FCB does not use it", so no
operation of this model reads it. -/
def Config.linkBaud : Nat := 38400

end Sys2Proof
end

