-- ==== Sys2Proof/Machine/Codec.lean ====
section
/-!
DEFINITION. The pure codec functions of spec/40_codec_functions.md (R100 to R108): parity, packing, hex digits, checksum, and
the source's whole-string `encode` and `decode`, against which the streaming commands are checked.
Every function that depends on the parity sense takes it as its first argument (R8).
-/

namespace Sys2Proof.Machine

/-- `xor7(v)`: the XOR fold of the seven bits of `v` (R100). -/
def xor7 (v : Char7) : Bool :=
  v[0] ^^ v[1] ^^ v[2] ^^ v[3] ^^ v[4] ^^ v[5] ^^ v[6]

/-- `pbit(v)`: the parity-carrying bit (R102). -/
def pbit (p : ParitySense) (v : Char7) : Bool :=
  match p with
  | .odd => !xor7 v
  | .evenLiteral => xor7 v

/-- `pack(v)`: the wire byte `pbit(v) ++ v[6:0]` (R103). -/
def pack (p : ParitySense) (v : Char7) : Byte := BitVec.ofBool (pbit p v) ++ v

/-- `unpack(b)`: the character `b[6:0]`; bit 7 is discarded and not checked (R105). -/
def unpack (b : Byte) : Char7 := b.extractLsb' 0 7

/-- `hexd(n)`: the code of the uppercase hex digit for `n` (R82, R106). -/
def hexd (n : BitVec 4) : Char7 :=
  if n ≤ 9 then 0x30 + n.setWidth 7 else 0x41 + (n.setWidth 7 - 10)

/-- `hex2(a)`: the two digits of a checksum, high digit first (R106). -/
def hex2 (a : Char7) : Char7 × Char7 :=
  (hexd ((a.extractLsb' 4 3).setWidth 4), hexd (a.extractLsb' 0 4))

/-- The XOR of a sequence of characters, 0x00 for the empty one. -/
def xorAll : List Char7 → Char7
  | [] => 0x00
  | c :: cs => c ^^^ xorAll cs

/-- `csum(s)`: the XOR of the codes of `s`, each taken mod 128 (R107). -/
def csum (s : List Byte) : Char7 := xorAll (s.map unpack)

/-- The two checksum digits of `a` as the characters of a framed string, high digit first (R53, R83). -/
def checkDigits (a : Char7) : List Char7 := [(hex2 a).1, (hex2 a).2]

/-- The framed string of a message: its characters and its two checksum digits (R83). -/
def framedString (s : List Byte) : List Char7 := s.map unpack ++ checkDigits (csum s)

/-- The source's whole-string `encode(s)` (R107). -/
def encodeFrame (p : ParitySense) (s : List Byte) : List Byte := (framedString s).map (pack p)

/-- The outcomes of the source's whole-string `decode(r)` (R108). -/
inductive FrameResult where
  /-- Fewer than three characters: the checksum cannot be checked. -/
  | invalid
  /-- The recomputed digits differ from the received ones. -/
  | checksumError
  /-- All characters, checksum digits included. -/
  | ok (chars : List Char7)
deriving DecidableEq, Repr

/-- The source's whole-string `decode(r)` (R108): the comparison is exact equality of 7-bit codes. -/
def decodeFrame (r : List Byte) : FrameResult :=
  let cs := r.map unpack
  let n := cs.length
  if n < 3 then .invalid
  else if checkDigits (xorAll (cs.take (n - 2))) ≠ cs.drop (n - 2) then .checksumError
  else .ok cs

end Sys2Proof.Machine
end

