-- ==== Sys2Proof/Machine/State.lean ====
section
/-!
DEFINITION. The state of the FCB: the complete list of R22, one field each, and the host's stream of inputs that the step
reads (R21, R56, R220).
There is no program counter (R21), no register file (R20), no address space and so no memory (R50).
-/

namespace Sys2Proof.Machine

/-- The causes of a command error (R191). -/
inductive CmdError where
  /-- A word with `OP` in 0xB to 0xE. -/
  | reservedOp
  /-- ENC_PUSH or PACK with `D[7] = 1` while `CFG_MASKMODE = REJECT`. -/
  | dataNot7Bit
  /-- DEC_INIT with a value that is neither 0x00 nor a reply-table letter. -/
  | unknownCmd
  /-- A field that must be zero is not. -/
  | reservedField
deriving DecidableEq, Repr

/-- One thing the host does to the FCB: it issues a command word (R56, R70), or it pulses the reset input `rst` (R220). -/
inductive Input where
  | command (w : CmdWord)
  | reset
deriving DecidableEq, Repr

/-- The registers and streams of R22, in its order, then the model's own input stream. -/
structure State where
  /-- `ENC_ACC[6:0]`, the running checksum of the message being encoded (R25). -/
  encAcc : Char7
  /-- `DEC_ACC[6:0]`, the XOR of every character received but the last two (R27). -/
  decAcc : Char7
  /-- `DEC_H1[6:0]`, the character before the most recent one (R28). -/
  decH1 : Char7
  /-- `DEC_H0[6:0]`, the most recent character (R28). -/
  decH0 : Char7
  /-- `DEC_FIRST[6:0]`, the first character (R29). -/
  decFirst : Char7
  /-- `DEC_CNT[7:0]`, the character count, saturating at 255 (R30). -/
  decCnt : BitVec 8
  /-- `DEC_OVF`, sticky: more than 255 characters have been received (R31). -/
  decOvf : Bool
  /-- `EXP_VALID`: 1 in table mode, 0 in raw mode (R33). -/
  expValid : Bool
  /-- `EXP_MARK[6:0]`, the expected reply marker (R33). -/
  expMark : Char7
  /-- `EXP_LEN[7:0]`, the expected total reply length (R33). -/
  expLen : BitVec 8
  /-- `STATUS[5:0]`, the stored bits of `STATUS`: MARK, LEN, CSUM, SHORT, OK, DONE (R22, R35). -/
  statusLow : BitVec 6
  /-- `ERR_CAUSE[2:0]`, the code of the first command error (R38). -/
  errCause : BitVec 3
  /-- `ERR_MORE`: a later command error occurred (R39). -/
  errMore : Bool
  /-- `RESULT[15:0]` (R40). -/
  result : BitVec 16
  /-- `CFG_MASKMODE` (R41). -/
  maskMode : MaskMode
  /-- `TX`, the wire bytes emitted by the encoder, oldest first (R42). -/
  tx : List Byte
  /-- `RX`, the characters passed through by the decoder, oldest first (R42). -/
  rx : List Char7
  /-- DESIGN CHOICE (log 1): what the host does next, in order; the step takes the head. Not a register of the FCB. -/
  pending : List Input
deriving DecidableEq, Repr

/-- The faults of the machine: none. The FCB never stops: a command that it does not accept raises a command error, which is
a next state (R75, R190, R192). -/
inductive Fault where
deriving DecidableEq, Repr

/-- The refusals of the machine. -/
inductive Refusal where
  /-- An instruction without a meaning, raised by its arm of `exec` (safe). No arm raises it: every row has its meaning. -/
  | notModelled (mnemonic : String)
deriving DecidableEq, Repr

/-- The state right after reset, from power on (R22, R221): every register at the value of R22's table, `TX` and `RX` empty
("A model that starts from reset starts with both sequences empty", R43). Nothing has been issued yet (log 1). -/
def State.reset : State where
  encAcc := 0x00
  decAcc := 0x00
  decH1 := 0x00
  decH0 := 0x00
  decFirst := 0x00
  decCnt := 0x00
  decOvf := false
  expValid := false
  expMark := 0x00
  expLen := 0x00
  statusLow := 0
  errCause := 0
  errMore := false
  result := 0x0000
  maskMode := Config.maskModeReset
  tx := []
  rx := []
  pending := []

end Sys2Proof.Machine
end

