-- ==== Sys2Proof/Machine/Operands.lean ====
section
/-!
DEFINITION. The data field `D` of a command, form by form: the data rules of R74 with the error each raises, the reply table
(R84, R142), the DEC_INIT selection (R87, R141) and the CFG field (R86).
-/

namespace Sys2Proof.Machine

/-- What `table(d)` returns: `(valid, marker, length)` (R142). -/
structure ReplyEntry where
  valid : Bool
  marker : Char7
  length : BitVec 8
deriving DecidableEq, Repr

/-- The entry of a value that is not in the table, and the selection of raw mode: `(0, 0x00, 0x00)` (R33, R141, R142). -/
def noEntry : ReplyEntry := ⟨false, 0x00, 0⟩

/-- `table(d)`: the reply table, keyed by the six uppercase command letters (R84, R142). -/
def replyTable (d : Byte) : ReplyEntry :=
  if d = 0x56 then ⟨true, 0x76, 7⟩
  else if d = 0x53 then ⟨true, 0x73, 67⟩
  else if d = 0x4C then ⟨true, 0x6C, 3⟩
  else if d = 0x58 then ⟨true, 0x78, 3⟩
  else if d = 0x57 then ⟨true, 0x77, 7⟩
  else if d = 0x52 then ⟨true, 0x72, 7⟩
  else noEntry

/-- The rule "must be 0x00": a nonzero `D` raises RESERVED_FIELD (R74). -/
def zeroDataError (d : Byte) : Option CmdError := if d ≠ 0x00 then some .reservedField else none

/-- The rule of ENC_PUSH and PACK: `D[7] = 1` raises DATA_NOT_7BIT when the mode is `REJECT` (R74, R122, R124). -/
def sevenBitError (m : MaskMode) (d : Byte) : Option CmdError :=
  if d[7] = true ∧ m = .reject then some .dataNot7Bit else none

/-- The rule of DEC_INIT: raw mode for 0x00, the entry of a table letter, else UNKNOWN_CMD (R87, R141). -/
def decInitSelect (d : Byte) : Except CmdError ReplyEntry :=
  if d = 0x00 then .ok noEntry
  else if (replyTable d).valid then .ok (replyTable d)
  else .error .unknownCmd

/-- The rule of CFG: `D[7:1] != 0` raises RESERVED_FIELD (R74, R172). -/
def cfgError (d : Byte) : Option CmdError := if d.extractLsb' 1 7 ≠ 0 then some .reservedField else none

/-- `D[0]` of CFG as the new mask mode: 0 `MASK`, 1 `REJECT` (R86). -/
def cfgMode (d : Byte) : MaskMode := if d[0] then .reject else .mask

/-- The error a command raises in a mask mode, `none` where it is accepted (R74, R75, R191, R193): the word of a reserved
operation raises RESERVED_OP before any data rule is looked at, and every other operation has one data rule. -/
def commandError (m : MaskMode) : Instr → Option CmdError
  | .nop d => zeroDataError d
  | .encInit d => zeroDataError d
  | .encPush d => sevenBitError m d
  | .encFinish d => zeroDataError d
  | .decInit d =>
    match decInitSelect d with
    | .ok _ => none
    | .error c => some c
  | .decPush _ => none
  | .decCheck d => zeroDataError d
  | .pack d => sevenBitError m d
  | .lookup _ => none
  | .cfg d => cfgError d
  | .clrerr d => zeroDataError d
  | .reservedB _ => some .reservedOp
  | .reservedC _ => some .reservedOp
  | .reservedD _ => some .reservedOp
  | .reservedE _ => some .reservedOp
  | .sreset d => zeroDataError d

/-- The command is accepted in this mask mode: it breaks no data rule (R74, R75). -/
abbrev Accepted (m : MaskMode) (i : Instr) : Prop := commandError m i = none

end Sys2Proof.Machine
end

