-- ==== Sys2Proof/Machine/Ops.lean ====
section
/-!
DEFINITION. The named operations over the state that the commands share.
Each writes the registers it names and nothing else; in a record update every right-hand side reads the state before it,
as the pseudocode asks ("All right-hand sides read the values from before the command", R143).
-/

namespace Sys2Proof.Machine

/-- The code a command error leaves in `ERR_CAUSE` (R191). -/
def CmdError.code : CmdError → BitVec 3
  | .reservedOp => 1
  | .dataNot7Bit => 2
  | .unknownCmd => 3
  | .reservedField => 4

/-- `raise CmdError(c)`: the first cause is kept, a later error sets `ERR_MORE`, nothing else changes (R192). -/
def State.raise (s : State) (c : CmdError) : State :=
  if s.errCause = 0 then { s with errCause := c.code } else { s with errMore := true }

/-- The end of the error record: the effect of CLRERR (R173, R199). -/
def State.clearErrors (s : State) : State := { s with errCause := 0, errMore := false }

/-- The end of a command: the error its data rule raises, and then nothing else takes effect (R192), or its effect. -/
def complete (error : Option CmdError) (s done : State) : Host.Outcome State Fault Refusal :=
  match error with
  | some c => .next (s.raise c)
  | none => .next done

/-- `emit_tx(b)`: append a wire byte to `TX` (R10, R42). -/
def State.emitTx (s : State) (b : Byte) : State := { s with tx := s.tx ++ [b] }

/-- `emit_rx(c)`: append a character to `RX` (R10, R42). -/
def State.emitRx (s : State) (c : Char7) : State := { s with rx := s.rx ++ [c] }

/-- `ENC_ACC <- a`. -/
def State.setEncAcc (s : State) (a : Char7) : State := { s with encAcc := a }

/-- `RESULT <- r`. -/
def State.setResult (s : State) (r : BitVec 16) : State := { s with result := r }

/-- `CFG_MASKMODE <- m`. -/
def State.setMaskMode (s : State) (m : MaskMode) : State := { s with maskMode := m }

/-- `STATUS[5:0] <- v`. -/
def State.setStatusLow (s : State) (v : BitVec 6) : State := { s with statusLow := v }

/-- The effect of an accepted ENC_PUSH: add a character to the checksum and emit its wire byte (R122). -/
def State.encodeChar (s : State) (p : ParitySense) (v : Char7) : State :=
  (s.setEncAcc (s.encAcc ^^^ v)).emitTx (pack p v)

/-- The effect of an accepted ENC_FINISH: emit the two checksum digits, high digit first, and end the message (R123). -/
def State.finishMessage (s : State) (p : ParitySense) : State :=
  ((s.emitTx (pack p (hex2 s.encAcc).1)).emitTx (pack p (hex2 s.encAcc).2)).setEncAcc 0x00

/-- The effect of an accepted DEC_INIT: an empty history, the selected checks, no verdict (R141). -/
def State.startReply (s : State) (e : ReplyEntry) : State :=
  { s with
    decAcc := 0x00
    decH1 := 0x00
    decH0 := 0x00
    decFirst := 0x00
    decCnt := 0x00
    decOvf := false
    expValid := e.valid
    expMark := e.marker
    expLen := e.length
    statusLow := 0 }

/-- The history after one more character: the register writes of DEC_PUSH, all from the values before it, and the end of
any verdict (R143). -/
def State.shiftHistory (s : State) (c : Char7) : State :=
  { s with
    decAcc := if 2 ≤ s.decCnt then s.decAcc ^^^ s.decH1 else s.decAcc
    decH1 := s.decH0
    decH0 := c
    decFirst := if s.decCnt = 0 then c else s.decFirst
    decOvf := if s.decCnt = 255 then true else s.decOvf
    decCnt := if s.decCnt = 255 then s.decCnt else s.decCnt + 1
    statusLow := 0 }

/-- The effect of DEC_PUSH (R143). -/
def State.acceptChar (s : State) (c : Char7) : State := (s.shiftHistory c).emitRx c

/-- Reset: every register of R22 but `TX` and `RX` at its reset value (R43, R174, R221). The host's stream of inputs is no
register of the FCB and goes on (log 3). -/
def State.resetRegisters (s : State) : State :=
  { State.reset with tx := s.tx, rx := s.rx, pending := s.pending }

end Sys2Proof.Machine
end

