-- ==== Sys2Proof/Machine/Control.lean ====
section
/-!
DEFINITION. The control family (spec/43_control.md): NOP, CFG, CLRERR, SRESET, and the reserved operations 0xB to 0xE.
-/

namespace Sys2Proof.Machine

/-- NOP (R170). -/
def execNop (d : Byte) (s : State) : Host.Outcome State Fault Refusal :=
  complete (zeroDataError d) s s

/-- CFG (R172): `CFG_MASKMODE <- D[0]`. -/
def execCfg (d : Byte) (s : State) : Host.Outcome State Fault Refusal :=
  complete (cfgError d) s (s.setMaskMode (cfgMode d))

/-- CLRERR (R173). -/
def execClrerr (d : Byte) (s : State) : Host.Outcome State Fault Refusal :=
  complete (zeroDataError d) s s.clearErrors

/-- SRESET (R174): the same effect as the reset input (R221). -/
def execSreset (d : Byte) (s : State) : Host.Outcome State Fault Refusal :=
  complete (zeroDataError d) s s.resetRegisters

/-- OP 0xB (R175): `raise CmdError(RESERVED_OP)`, whatever the data field. -/
def execReservedB (_d : Byte) (s : State) : Host.Outcome State Fault Refusal :=
  .next (s.raise .reservedOp)

/-- OP 0xC (R175). -/
def execReservedC (_d : Byte) (s : State) : Host.Outcome State Fault Refusal :=
  .next (s.raise .reservedOp)

/-- OP 0xD (R175). -/
def execReservedD (_d : Byte) (s : State) : Host.Outcome State Fault Refusal :=
  .next (s.raise .reservedOp)

/-- OP 0xE (R175). -/
def execReservedE (_d : Byte) (s : State) : Host.Outcome State Fault Refusal :=
  .next (s.raise .reservedOp)

end Sys2Proof.Machine
end

