-- ==== Sys2Proof/Machine/Flags.lean ====
section
/-!
DEFINITION. The flags: the verdict function over the decoder state (R144) and the eight bits of `STATUS` (R35).
-/

namespace Sys2Proof.Machine

/-- `short`: fewer than three characters (R144). -/
def State.isShort (s : State) : Bool := !s.decOvf && decide (s.decCnt < 3)

/-- `csum`: not short, and the last two characters are not the digits of the XOR of the others (R144). -/
def State.csumWrong (s : State) : Bool := !s.isShort && decide ((s.decH1, s.decH0) ≠ hex2 s.decAcc)

/-- `len`: table mode, and the count overflowed or differs from `EXP_LEN` (R144). -/
def State.lenWrong (s : State) : Bool := s.expValid && (s.decOvf || decide (s.decCnt ≠ s.expLen))

/-- The reply is malformed: one of `short`, `csum`, `len` (R36, R194). -/
def State.isMalformed (s : State) : Bool := s.isShort || s.csumWrong || s.lenWrong

/-- `mark`: table mode, not malformed, and the first character is not the expected marker (R144, R195). -/
def State.markWrong (s : State) : Bool :=
  s.expValid && !s.isMalformed && decide (s.decFirst ≠ s.expMark)

/-- `ok`: no check failed (R144). -/
def State.replyOk (s : State) : Bool := !(s.isMalformed || s.markWrong)

/-- `verdict() = mark ++ len ++ csum ++ short ++ ok ++ 1`, the new `STATUS[5:0]` (R144). -/
def State.verdict (s : State) : BitVec 6 :=
  BitVec.ofBool s.markWrong ++ BitVec.ofBool s.lenWrong ++ BitVec.ofBool s.csumWrong ++ BitVec.ofBool s.isShort
    ++ BitVec.ofBool s.replyOk ++ 1#1

/-- `STATUS[7:0]` as the host reads it: bit 7 is computed (`ERR_CAUSE != 0`), bit 6 reads 0, bits [5:0] are stored (R35). -/
def State.status (s : State) : Byte := BitVec.ofBool (s.errCause ≠ 0) ++ 0#1 ++ s.statusLow

/-- `STATUS[0]`, DONE: the verdict bits are valid (R35). -/
def State.flagDone (s : State) : Bool := s.status[0]

/-- `STATUS[1]`, OK (R35). -/
def State.flagOk (s : State) : Bool := s.status[1]

/-- `STATUS[2]`, SHORT (R35). -/
def State.flagShort (s : State) : Bool := s.status[2]

/-- `STATUS[3]`, CSUM (R35). -/
def State.flagCsum (s : State) : Bool := s.status[3]

/-- `STATUS[4]`, LEN (R35). -/
def State.flagLen (s : State) : Bool := s.status[4]

/-- `STATUS[5]`, MARK (R35). -/
def State.flagMark (s : State) : Bool := s.status[5]

/-- `STATUS[7]`, ERR (R35). -/
def State.flagErr (s : State) : Bool := s.status[7]

end Sys2Proof.Machine
end

