-- ==== Sys2Proof/Machine/Decoder.lean ====
section
/-!
DEFINITION. The decoder family (spec/42_decoder.md): DEC_INIT, DEC_PUSH, DEC_CHECK, LOOKUP.
-/

namespace Sys2Proof.Machine

/-- DEC_INIT (R141): on UNKNOWN_CMD no decoder register changes. -/
def execDecInit (d : Byte) (s : State) : Host.Outcome State Fault Refusal :=
  match decInitSelect d with
  | .ok e => .next (s.startReply e)
  | .error c => .next (s.raise c)

/-- DEC_PUSH (R143): every data byte is legal. -/
def execDecPush (d : Byte) (s : State) : Host.Outcome State Fault Refusal :=
  .next (s.acceptChar (unpack d))

/-- DEC_CHECK (R145): latch the verdict. -/
def execDecCheck (d : Byte) (s : State) : Host.Outcome State Fault Refusal :=
  complete (zeroDataError d) s (s.setStatusLow s.verdict)

/-- LOOKUP (R147): `RESULT <- zext_8(marker) ++ length`, 0x0000 for a value that is not in the table. -/
def execLookup (d : Byte) (s : State) : Host.Outcome State Fault Refusal :=
  .next (s.setResult ((replyTable d).marker.setWidth 8 ++ (replyTable d).length))

end Sys2Proof.Machine
end

