-- ==== Sys2Proof/Machine/Encoder.lean ====
section
/-!
DEFINITION. The encoder family (spec/41_encoder.md): ENC_INIT, ENC_PUSH, ENC_FINISH, PACK.
The build's parity sense is Config's (R8); the operations behind these meanings take it as an argument.
-/

namespace Sys2Proof.Machine

/-- ENC_INIT (R121). -/
def execEncInit (d : Byte) (s : State) : Host.Outcome State Fault Refusal :=
  complete (zeroDataError d) s (s.setEncAcc 0x00)

/-- ENC_PUSH (R122). -/
def execEncPush (d : Byte) (s : State) : Host.Outcome State Fault Refusal :=
  complete (sevenBitError s.maskMode d) s (s.encodeChar Config.paritySense (unpack d))

/-- ENC_FINISH (R123). -/
def execEncFinish (d : Byte) (s : State) : Host.Outcome State Fault Refusal :=
  complete (zeroDataError d) s (s.finishMessage Config.paritySense)

/-- PACK: `RESULT <- zext_16(pack(D[6:0]))` (R124, R55). -/
def execPack (d : Byte) (s : State) : Host.Outcome State Fault Refusal :=
  complete (sevenBitError s.maskMode d) s (s.setResult ((pack Config.paritySense (unpack d)).setWidth 16))

end Sys2Proof.Machine
end

