-- ==== Sys2Proof/Machine/Dispatch.lean ====
section
/-! DEFINITION. The dispatch: one arm per command of the opcode map (R73), each a direct call of its meaning. -/

namespace Sys2Proof.Machine

def exec (i : Instr) (s : State) : Host.Outcome State Fault Refusal :=
  match i with
  | .nop d => Sys2Proof.Machine.execNop d s
  | .encInit d => Sys2Proof.Machine.execEncInit d s
  | .encPush d => Sys2Proof.Machine.execEncPush d s
  | .encFinish d => Sys2Proof.Machine.execEncFinish d s
  | .decInit d => Sys2Proof.Machine.execDecInit d s
  | .decPush d => Sys2Proof.Machine.execDecPush d s
  | .decCheck d => Sys2Proof.Machine.execDecCheck d s
  | .pack d => Sys2Proof.Machine.execPack d s
  | .lookup d => Sys2Proof.Machine.execLookup d s
  | .cfg d => Sys2Proof.Machine.execCfg d s
  | .clrerr d => Sys2Proof.Machine.execClrerr d s
  | .reservedB d => Sys2Proof.Machine.execReservedB d s
  | .reservedC d => Sys2Proof.Machine.execReservedC d s
  | .reservedD d => Sys2Proof.Machine.execReservedD d s
  | .reservedE d => Sys2Proof.Machine.execReservedE d s
  | .sreset d => Sys2Proof.Machine.execSreset d s

end Sys2Proof.Machine
end

