-- ==== Sys2Proof/Machine/Step.lean ====
section
/-!
DEFINITION. One step: the host's next input is taken and completes before the one after it (R6, R56).
-/

namespace Sys2Proof.Machine

/-- The step function. A command word is decoded and executed (R70, R73); a pulse of `rst` puts every register in its reset
state, and no command is accepted by it (R220, R221); with nothing offered, no command executes and nothing changes
(log 2). -/
def step (s : State) : Host.Outcome State Fault Refusal :=
  match s.pending with
  | [] => .next s
  | .command w :: later => exec (decode w) { s with pending := later }
  | .reset :: later => .next (State.resetRegisters { s with pending := later })

/-- `s` with one more command word issued ahead of everything the host has yet to do, so that the next step runs it (log 1).
The command port has twelve bits (R70), so the low twelve of the low `nbits` bits of `w` are the word. -/
def State.withFetchWord (s : State) (nbits w : Nat) : State :=
  { s with pending := .command (BitVec.ofNat 12 (w % 2 ^ nbits)) :: s.pending }

end Sys2Proof.Machine
end

