-- ==== Sys2Proof/Machine/Run.lean ====
section
/-!
DEFINITION. Sequences of commands: what the FCB does with a list of commands issued one after the other (R56, R224), and the
pseudo-commands of R91, which an assembler expands and the FCB never sees.
-/

namespace Sys2Proof.Machine

/-- The commands of a list, one at a time and in order; each sees the state every earlier one left (R56). -/
def runCommands : List Instr → State → Host.Outcome State Fault Refusal
  | [], s => .next s
  | i :: is, s =>
    match exec i s with
    | .next t => runCommands is t
    | .fault f => .fault f
    | .refused r => .refused r

/-- A pseudo-command (R91). -/
inductive Pseudo where
  /-- `ENCODE "s"`. -/
  | encode (message : List Byte)
  /-- `VERIFY L, b_0, ...`; the letter 0x00 is `VERIFY RAW, b_0, ...`. -/
  | verify (letter : Byte) (bytes : List Byte)
  /-- `CLR`. -/
  | clr
deriving DecidableEq, Repr

/-- The expansion of a pseudo-command (R91). -/
def Pseudo.expand : Pseudo → List Instr
  | .encode message => .encInit 0x00 :: message.map Instr.encPush ++ [.encFinish 0x00]
  | .verify letter bytes => .decInit letter :: bytes.map Instr.decPush ++ [.decCheck 0x00]
  | .clr => [.clrerr 0x00]

end Sys2Proof.Machine
end

