-- ==== Sys2Proof/Machine/Assembler.lean ====
section
/-!
DEFINITION. The assembler syntax of R90 and the pseudo-commands of R91, over lists of characters.
This is the host's tool, not a part of the block: one line is one command or one pseudo-command, and `;` starts a comment.
What R90 leaves open is in log 8.
-/

namespace Sys2Proof.Machine

/-- Why a line is not a command. -/
inductive AsmError where
  | unknownMnemonic
  | missingOperand
  | unexpectedOperand
  | badOperand
  | operandTooWide
deriving DecidableEq, Repr

def isBlankChar (c : Char) : Bool := c = ' ' || c = '\t' || c = '\r'

/-- A text without the blanks at its two ends. -/
def trim (t : List Char) : List Char :=
  (((t.dropWhile isBlankChar).reverse).dropWhile isBlankChar).reverse

/-- A line up to its comment (R90). A `;` inside a character literal, or inside the string of ENCODE, starts none. -/
def stripComment (inString : Bool) : List Char → List Char
  | [] => []
  | '"' :: cs => '"' :: stripComment (!inString) cs
  | '\'' :: c :: '\'' :: cs => '\'' :: c :: '\'' :: stripComment inString cs
  | c :: cs => if c = ';' && !inString then [] else c :: stripComment inString cs

def digitValue (c : Char) : Option Nat :=
  if '0'.toNat ≤ c.toNat ∧ c.toNat ≤ '9'.toNat then some (c.toNat - '0'.toNat)
  else if 'A'.toNat ≤ c.toNat ∧ c.toNat ≤ 'F'.toNat then some (c.toNat - 'A'.toNat + 10)
  else if 'a'.toNat ≤ c.toNat ∧ c.toNat ≤ 'f'.toNat then some (c.toNat - 'a'.toNat + 10)
  else none

/-- The value of a digit string in a base, on top of what was read before it. -/
def readDigits (base : Nat) : Nat → List Char → Option Nat
  | value, [] => some value
  | value, c :: cs =>
    match digitValue c with
    | none => none
    | some d => if d < base then readDigits base (value * base + d) cs else none

/-- A number as a data field of eight bits. -/
def byteOperand (n : Option Nat) : Except AsmError Byte :=
  match n with
  | none => .error .badOperand
  | some v => if v < 256 then .ok (BitVec.ofNat 8 v) else .error .operandTooWide

/-- An operand: a character literal, a hex number or a decimal number (R90). -/
def readOperand (t : List Char) : Except AsmError Byte :=
  match t with
  | [] => .error .missingOperand
  | ['\'', c, '\''] => if c.toNat < 128 then .ok (BitVec.ofNat 8 c.toNat) else .error .badOperand
  | '0' :: 'x' :: c :: cs => byteOperand (readDigits 16 0 (c :: cs))
  | c :: cs => byteOperand (readDigits 10 0 (c :: cs))

/-- The operand of CFG: also the names `MASK` (0) and `REJECT` (1) (R90). -/
def readCfgOperand (t : List Char) : Except AsmError Byte :=
  if t = "MASK".toList then .ok 0x00
  else if t = "REJECT".toList then .ok 0x01
  else readOperand t

/-- The operand of DEC_INIT and the first operand of VERIFY: also the name `RAW` (0x00) (R90, R91). -/
def readReplyOperand (t : List Char) : Except AsmError Byte :=
  if t = "RAW".toList then .ok 0x00 else readOperand t

/-- The operands of a list, separated by commas; a comma inside a character literal separates nothing. -/
def splitCommas : List Char → List Char → List (List Char)
  | [], word => [trim word.reverse]
  | '\'' :: c :: '\'' :: cs, word => splitCommas cs ('\'' :: c :: '\'' :: word)
  | c :: cs, word => if c = ',' then trim word.reverse :: splitCommas cs [] else splitCommas cs (c :: word)

def readOperands : List (List Char) → Except AsmError (List Byte)
  | [] => .ok []
  | t :: ts =>
    match readOperand t, readOperands ts with
    | .ok b, .ok bs => .ok (b :: bs)
    | .error e, _ => .error e
    | _, .error e => .error e

/-- The characters of a string up to the double quote that must end the operand. -/
def readString : List Char → Except AsmError (List Byte)
  | [] => .error .badOperand
  | c :: cs =>
    if c = '"' then (if cs = [] then .ok [] else .error .badOperand)
    else if c.toNat < 128 then
      match readString cs with
      | .ok bs => .ok (BitVec.ofNat 8 c.toNat :: bs)
      | .error e => .error e
    else .error .badOperand

/-- A mnemonic of an operation whose data field must be 0, written without an operand (R90). -/
def plainCommand (name : List Char) : Option Instr :=
  if name = "NOP".toList then some (.nop 0x00)
  else if name = "ENC_INIT".toList then some (.encInit 0x00)
  else if name = "ENC_FINISH".toList then some (.encFinish 0x00)
  else if name = "DEC_CHECK".toList then some (.decCheck 0x00)
  else if name = "CLRERR".toList then some (.clrerr 0x00)
  else if name = "CLR".toList then some (.clrerr 0x00)
  else if name = "SRESET".toList then some (.sreset 0x00)
  else none

/-- One command from its operand. -/
def withOperand (command : Byte → Instr) (operand : Except AsmError Byte) : Except AsmError (List Instr) :=
  match operand with
  | .ok d => .ok [command d]
  | .error e => .error e

/-- A mnemonic with its operand text (R90, R91). -/
def operandCommand (name operand : List Char) : Except AsmError (List Instr) :=
  if name = "ENC_PUSH".toList then withOperand .encPush (readOperand operand)
  else if name = "DEC_INIT".toList then withOperand .decInit (readReplyOperand operand)
  else if name = "DEC_PUSH".toList then withOperand .decPush (readOperand operand)
  else if name = "PACK".toList then withOperand .pack (readOperand operand)
  else if name = "LOOKUP".toList then withOperand .lookup (readOperand operand)
  else if name = "CFG".toList then withOperand .cfg (readCfgOperand operand)
  else if name = "ENCODE".toList then
    match operand with
    | '"' :: cs =>
      match readString cs with
      | .ok message => .ok (Pseudo.encode message).expand
      | .error e => .error e
    | _ => .error .badOperand
  else if name = "VERIFY".toList then
    match splitCommas operand [] with
    | [] => .error .missingOperand
    | letter :: bytes =>
      match readReplyOperand letter, readOperands bytes with
      | .ok l, .ok bs => .ok (Pseudo.verify l bs).expand
      | .error e, _ => .error e
      | _, .error e => .error e
  else .error .unknownMnemonic

/-- One line: no command for a blank line, one for a command, the expansion for a pseudo-command (R90, R91). -/
def assembleLine (line : List Char) : Except AsmError (List Instr) :=
  let text := trim (stripComment false line)
  let name := text.takeWhile (fun c => !isBlankChar c)
  let operand := trim (text.dropWhile (fun c => !isBlankChar c))
  if name = [] then .ok []
  else
    match plainCommand name with
    | some i => if operand = [] then .ok [i] else .error .unexpectedOperand
    | none => operandCommand name operand

/-- A source text, one command per line (R90), as the words the host issues. -/
def assembleLines : List (List Char) → Except AsmError (List CmdWord)
  | [] => .ok []
  | line :: later =>
    match assembleLine line, assembleLines later with
    | .ok is, .ok ws => .ok (is.map encode ++ ws)
    | .error e, _ => .error e
    | _, .error e => .error e

/-- A byte as a hex operand `0xNN`, with the digits of R82. -/
def renderByte (d : Byte) : List Char :=
  ['0', 'x', Char.ofNat (hexd (d.extractLsb' 4 4)).toNat, Char.ofNat (hexd (d.extractLsb' 0 4)).toNat]

/-- The text of a command in the syntax of R90. A command with a data field that R90 gives no text has none: an operation
whose `D` must be 0 with another `D`, and the reserved operations. -/
def render : Instr → Option (List Char)
  | .nop d => if d = 0x00 then some "NOP".toList else none
  | .encInit d => if d = 0x00 then some "ENC_INIT".toList else none
  | .encPush d => some ("ENC_PUSH ".toList ++ renderByte d)
  | .encFinish d => if d = 0x00 then some "ENC_FINISH".toList else none
  | .decInit d => some ("DEC_INIT ".toList ++ renderByte d)
  | .decPush d => some ("DEC_PUSH ".toList ++ renderByte d)
  | .decCheck d => if d = 0x00 then some "DEC_CHECK".toList else none
  | .pack d => some ("PACK ".toList ++ renderByte d)
  | .lookup d => some ("LOOKUP ".toList ++ renderByte d)
  | .cfg d => some ("CFG ".toList ++ renderByte d)
  | .clrerr d => if d = 0x00 then some "CLRERR".toList else none
  | .reservedB _ => none
  | .reservedC _ => none
  | .reservedD _ => none
  | .reservedE _ => none
  | .sreset d => if d = 0x00 then some "SRESET".toList else none

end Sys2Proof.Machine
end

