-- ==== Sys2Proof/Machine/HostView.lean ====
section
/-!
DEFINITION. What the host reads from the FCB (R24, R71, R146, R194, R224). Reading has no effect on the state (R52): each of
these is a function of it.
-/

namespace Sys2Proof.Machine

/-- A 7-bit register on an 8-bit port: bit 7 reads 0 (R24). -/
def onBytePort (c : Char7) : Byte := c.setWidth 8

/-- The output registers (R71, R208). -/
structure Outputs where
  status : Byte
  errCause : BitVec 3
  errMore : Bool
  result : BitVec 16
deriving DecidableEq, Repr

/-- The values on the output ports in a state (R71). -/
def State.outputs (s : State) : Outputs := ⟨s.status, s.errCause, s.errMore, s.result⟩

/-- What the FCB gives back after a command: the output registers and the elements the command appended (R61, R224). -/
structure Report where
  outputs : Outputs
  txAppended : List Byte
  rxAppended : List Char7
deriving DecidableEq, Repr

/-- The report of a command that took `before` to `after`. -/
def reportOf (before after : State) : Report :=
  ⟨after.outputs, after.tx.drop before.tx.length, after.rx.drop before.rx.length⟩

/-- The observation of a run: "the final register values together with the final `TX` and `RX`" (R224), without the model's
own input stream. -/
def State.observation (s : State) : State := { s with pending := [] }

/-- What the verdict bits mean to the host (R146, R194). -/
inductive ReplyOutcome where
  /-- DONE is 0: the verdict bits say nothing (R35, R223). -/
  | noVerdict
  /-- OK: the characters in `RX` since the matching DEC_INIT are the reply. -/
  | accepted
  /-- SHORT, CSUM or LEN: `ProtocolError::Malformed`. -/
  | malformed
  /-- MARK alone: `ProtocolError::UnexpectedReply`. -/
  | unexpectedReply
deriving DecidableEq, Repr

/-- The reading of `STATUS` (R146, R194). -/
def State.replyOutcome (s : State) : ReplyOutcome :=
  if !s.flagDone then .noVerdict
  else if s.flagShort || s.flagCsum || s.flagLen then .malformed
  else if s.flagMark then .unexpectedReply
  else .accepted

/-- The body of an accepted table-mode reply: its characters without the marker and the two checksum digits (R85, R146). -/
def replyBody (reply : List Char7) : List Char7 := (reply.drop 1).take (reply.length - 3)

end Sys2Proof.Machine
end

