-- ==== Sys2Proof/Safety.lean ====
section
/-!
DEFINITION. What counts as a good state of the FCB, in the terms the statements use: the decoder's history (R32), the
invariant every step keeps, and the words for a run that never stops.
-/

namespace Sys2Proof.Machine

/-- The bits of a wire byte that are 1, counted. -/
def oneBits (b : Byte) : Nat :=
  (b[0]).toNat + (b[1]).toNat + (b[2]).toNat + (b[3]).toNat
    + (b[4]).toNat + (b[5]).toNat + (b[6]).toNat + (b[7]).toNat

/-- Overall odd parity over the eight bits of a wire byte (R80, R102). -/
abbrev OddParity (b : Byte) : Prop := oneBits b % 2 = 1

/-- The decoder registers hold the history of the characters `cs`, received since the last DEC_INIT or reset: the six
equations of R32. -/
structure HoldsHistory (s : State) (cs : List Char7) : Prop where
  count : s.decCnt = BitVec.ofNat 8 (min cs.length 255)
  overflow : s.decOvf = decide (255 < cs.length)
  first : s.decFirst = cs.headD 0x00
  last : s.decH0 = cs.getLastD 0x00
  beforeLast : s.decH1 = cs.dropLast.getLastD 0x00
  others : s.decAcc = xorAll cs.dropLast.dropLast

/-- The expected-reply registers hold raw mode or an entry of the reply table (R33). -/
def ExpectsEntry (s : State) : Prop :=
  ∃ d : Byte, (s.expValid, s.expMark, s.expLen)
    = ((replyTable d).valid, (replyTable d).marker, (replyTable d).length)

/-- `RESULT` holds what PACK or LOOKUP writes, or its reset value, in the form the rules give it: a byte of odd parity in
bits [7:0] under a zero high byte (R103, R124), one of the six rows of R147, or 0x0000 (R147, R221). -/
def ResultShape (r : BitVec 16) : Prop :=
  (r.extractLsb' 8 8 = 0 ∧ OddParity (r.extractLsb' 0 8))
    ∨ r ∈ [0x7607, 0x7343, 0x6C03, 0x7803, 0x7707, 0x7207, 0x0000]

/-- The invariant of the machine. -/
structure Inv (s : State) : Prop where
  /-- `ERR_CAUSE` holds a code of R191: 5 to 7 are never produced. -/
  causeDefined : s.errCause.toNat ≤ 4
  /-- `ERR_MORE` is set only over a recorded first error (R39, R192). -/
  moreAfterFirst : s.errMore = true → s.errCause ≠ 0
  /-- The stored bits of `STATUS` are clear, or the verdict on the characters received so far (R35, R145, R233). -/
  verdictCurrent : s.statusLow = 0 ∨ s.statusLow = s.verdict
  /-- The overflow bit is set only at a saturated count (R30, R31). -/
  overflowSaturated : s.decOvf = true → s.decCnt = 255
  /-- With no character received the history is empty (R28, R29, R32). -/
  historyOfNone : s.decCnt = 0 → s.decFirst = 0 ∧ s.decH0 = 0 ∧ s.decH1 = 0 ∧ s.decAcc = 0
  /-- With one character it is both the first and the last (R32). -/
  historyOfOne : s.decCnt = 1 → s.decFirst = s.decH0 ∧ s.decH1 = 0 ∧ s.decAcc = 0
  /-- With two, the first is the one before the last (R32). -/
  historyOfTwo : s.decCnt = 2 → s.decFirst = s.decH1 ∧ s.decAcc = 0
  /-- With three, the accumulator holds the first (R32). -/
  historyOfThree : s.decCnt = 3 → s.decAcc = s.decFirst
  /-- Raw mode or an entry of the table (R33). -/
  expectation : ExpectsEntry s
  /-- `RESULT` has the shape its writers give it (R40). -/
  resultShape : ResultShape s.result
  /-- Every wire byte ever emitted has overall odd parity (R80, R103). -/
  txOdd : ∀ b ∈ s.tx, OddParity b

/-- The state after a command error with this code, in one update: the first cause is kept, a later one only sets `ERR_MORE`,
and every other register and both streams are as before (R192). -/
def State.errorRecorded (s : State) (code : BitVec 3) : State :=
  { s with
    errCause := if s.errCause = 0 then code else s.errCause
    errMore := s.errMore || decide (s.errCause ≠ 0) }

/-- The command errors raised in a run, oldest first (R38, R39). -/
def raisedErrors : List Instr → State → List CmdError
  | [], _ => []
  | i :: is, s =>
    (commandError s.maskMode i).toList ++
      (match exec i s with
       | .next t => raisedErrors is t
       | .fault _ => []
       | .refused _ => [])

/-- An accepted CLRERR or SRESET, the two commands that end the error record (R199). With a nonzero data field they raise
RESERVED_FIELD and end nothing (R173, R174). -/
def endsErrorRecord : Instr → Bool
  | .clrerr d => d = 0x00
  | .sreset d => d = 0x00
  | .nop _ => false
  | .encInit _ => false
  | .encPush _ => false
  | .encFinish _ => false
  | .decInit _ => false
  | .decPush _ => false
  | .decCheck _ => false
  | .pack _ => false
  | .lookup _ => false
  | .cfg _ => false
  | .reservedB _ => false
  | .reservedC _ => false
  | .reservedD _ => false
  | .reservedE _ => false

/-- The encoder accepts this data byte in this mask mode (R74, R125). -/
def EncoderAccepts (m : MaskMode) (d : Byte) : Prop := d[7] = false ∨ m = .mask

/-- The two states have the same encoder registers, stream and mask mode (R58). -/
structure SameEncoder (s t : State) : Prop where
  encAcc : s.encAcc = t.encAcc
  maskMode : s.maskMode = t.maskMode
  tx : s.tx = t.tx

/-- The two states have the same decoder registers, verdict bits and stream (R58, R120). -/
structure SameDecoder (s t : State) : Prop where
  decAcc : s.decAcc = t.decAcc
  decH1 : s.decH1 = t.decH1
  decH0 : s.decH0 = t.decH0
  decFirst : s.decFirst = t.decFirst
  decCnt : s.decCnt = t.decCnt
  decOvf : s.decOvf = t.decOvf
  expValid : s.expValid = t.expValid
  expMark : s.expMark = t.expMark
  expLen : s.expLen = t.expLen
  statusLow : s.statusLow = t.statusLow
  rx : s.rx = t.rx

/-- The machine goes on: the outcome is a next state. -/
def Continues (o : Host.Outcome State Fault Refusal) : Prop := ∃ t, o = .next t

end Sys2Proof.Machine
end

