-- ==== Sys2Proof/Certificates/Slice0/Obligations.lean ====
section
/-!
DEFINITION. The statements for the provers, one definition each, in the order of OBLIGATIONS.json: codec functions,
encoding, the step, the commands one by one, whole-machine rules, streams and replies, the invariant, the assembler.
A statement that gives the next state as an update of the old one says the command's frame too: every register, both
streams and the host's inputs that the update does not name are as before.
-/

open Sys2Proof Sys2Proof.Machine

/-! ### Codec functions -/

/-- R100: the fold is the XOR of the seven bits and is 1 exactly for an odd number of 1 bits. -/
def Obligations.XorFoldIsOneForOddlyManyOneBits : Prop :=
  (∀ v : Char7,
    xor7 v = (v[0] ^^ v[1] ^^ v[2] ^^ v[3] ^^ v[4] ^^ v[5] ^^ v[6])
      ∧ (xor7 v = true ↔ oneBits (v.setWidth 8) % 2 = 1))
    ∧ xor7 0x00 = false ∧ xor7 0x7F = true

/-- R101, R102: flipping one data bit flips the fold and the parity-carrying bit, under both senses; the bit is the
complement of the fold under ODD, where the byte `pbit ++ v` has odd parity, and the fold itself under EVEN_LITERAL. -/
def Obligations.FlippingOneDataBitFlipsTheParityBit : Prop :=
  (∀ (v : Char7) (i : Nat), i < 7 →
    xor7 (v ^^^ (1#7 <<< i)) = !xor7 v ∧ ∀ p, pbit p (v ^^^ (1#7 <<< i)) = !pbit p v)
    ∧ ∀ v : Char7, pbit .odd v = !xor7 v ∧ pbit .evenLiteral v = xor7 v ∧ OddParity (BitVec.ofBool (pbit .odd v) ++ v)

/-- R103: bit 7 of `pack(v)` is `pbit(v)` and bits [6:0] are `v`; odd population count under ODD; the corner cases. -/
def Obligations.PackCarriesParityInBitSeven : Prop :=
  (∀ (p : ParitySense) (v : Char7),
    (pack p v)[7] = pbit p v ∧ ∀ i : Nat, i < 7 → (pack p v).getLsbD i = v.getLsbD i)
    ∧ (∀ v : Char7, OddParity (pack .odd v))
    ∧ pack .odd 0x00 = 0x80 ∧ pack .odd 0x7F = 0x7F ∧ pack .evenLiteral 0x00 = 0x00 ∧ pack .evenLiteral 0x7F = 0xFF

/-- R104: the complete table of `pack` under ODD, and every entry with bit 7 inverted under EVEN_LITERAL. -/
def Obligations.PackAgreesWithTheTable : Prop :=
  let table : List Byte :=
    [0x80, 0x01, 0x02, 0x83, 0x04, 0x85, 0x86, 0x07, 0x08, 0x89, 0x8A, 0x0B, 0x8C, 0x0D, 0x0E, 0x8F]
    ++ [0x10, 0x91, 0x92, 0x13, 0x94, 0x15, 0x16, 0x97, 0x98, 0x19, 0x1A, 0x9B, 0x1C, 0x9D, 0x9E, 0x1F]
    ++ [0x20, 0xA1, 0xA2, 0x23, 0xA4, 0x25, 0x26, 0xA7, 0xA8, 0x29, 0x2A, 0xAB, 0x2C, 0xAD, 0xAE, 0x2F]
    ++ [0xB0, 0x31, 0x32, 0xB3, 0x34, 0xB5, 0xB6, 0x37, 0x38, 0xB9, 0xBA, 0x3B, 0xBC, 0x3D, 0x3E, 0xBF]
    ++ [0x40, 0xC1, 0xC2, 0x43, 0xC4, 0x45, 0x46, 0xC7, 0xC8, 0x49, 0x4A, 0xCB, 0x4C, 0xCD, 0xCE, 0x4F]
    ++ [0xD0, 0x51, 0x52, 0xD3, 0x54, 0xD5, 0xD6, 0x57, 0x58, 0xD9, 0xDA, 0x5B, 0xDC, 0x5D, 0x5E, 0xDF]
    ++ [0xE0, 0x61, 0x62, 0xE3, 0x64, 0xE5, 0xE6, 0x67, 0x68, 0xE9, 0xEA, 0x6B, 0xEC, 0x6D, 0x6E, 0xEF]
    ++ [0x70, 0xF1, 0xF2, 0x73, 0xF4, 0x75, 0x76, 0xF7, 0xF8, 0x79, 0x7A, 0xFB, 0x7C, 0xFD, 0xFE, 0x7F]
  ∀ v : Char7, table[v.toNat]? = some (pack .odd v) ∧ pack .evenLiteral v = pack .odd v ^^^ 0x80

/-- R105: `unpack` keeps the low seven bits, ignores bit 7, and undoes `pack` under either sense. -/
def Obligations.UnpackDiscardsBitSeven : Prop :=
  (∀ b : Byte, (unpack b).toNat = b.toNat % 128 ∧ unpack (b ^^^ 0x80) = unpack b)
    ∧ ∀ (p : ParitySense) (v : Char7), unpack (pack p v) = v

/-- R82, R106: the digit table, injectivity, the image, and the two digits of a checksum, the first one `0` to `7`. -/
def Obligations.HexDigitsAreUppercase : Prop :=
  (∀ n : BitVec 4, hexd n = if n.toNat ≤ 9 then BitVec.ofNat 7 (0x30 + n.toNat) else BitVec.ofNat 7 (0x41 + (n.toNat - 10)))
    ∧ (∀ m n : BitVec 4, hexd m = hexd n → m = n)
    ∧ (∀ c : Char7, (∃ n, hexd n = c) ↔ (0x30 ≤ c ∧ c ≤ 0x39) ∨ (0x41 ≤ c ∧ c ≤ 0x46))
    ∧ ∀ a : Char7, hex2 a = (hexd (BitVec.ofNat 4 (a.toNat / 16)), hexd (BitVec.ofNat 4 (a.toNat % 16)))
        ∧ 0x30 ≤ (hex2 a).1 ∧ (hex2 a).1 ≤ 0x37

/-- R107: the checksum of nothing is 0x00; it does not depend on the order of the characters; an even number of copies of a
character adds nothing; the frame is the packed characters and the two packed digits, `k + 2` bytes. -/
def Obligations.ChecksumIgnoresOrderAndPairs : Prop :=
  csum [] = 0x00
    ∧ (∀ (c : Byte) (s : List Byte), csum (c :: s) = (c &&& 0x7F).setWidth 7 ^^^ csum s)
    ∧ (∀ s t : List Byte, s.Perm t → csum s = csum t)
    ∧ (∀ (c : Byte) (k : Nat) (s : List Byte), csum (List.replicate (2 * k) c ++ s) = csum s)
    ∧ ∀ (p : ParitySense) (s : List Byte),
        encodeFrame p s = s.map (fun c => pack p (unpack c)) ++ [pack p (hex2 (csum s)).1, pack p (hex2 (csum s)).2]
          ∧ (encodeFrame p s).length = s.length + 2

/-- R109: decoding the frame of a message with at least one character gives its characters and the two digits, under either
parity sense; the frame of the empty message has two bytes and is INVALID. -/
def Obligations.FrameRoundTrip : Prop :=
  ∀ p : ParitySense,
    (∀ m : List Byte, m ≠ [] → decodeFrame (encodeFrame p m) = .ok (m.map unpack ++ checkDigits (csum m)))
      ∧ (encodeFrame p []).length = 2 ∧ decodeFrame (encodeFrame p []) = .invalid

/-- R110: one changed message character changes the checksum by the error pattern and is detected; the same pattern in two
characters is not; a change of bit 7 of any wire byte is never detected. -/
def Obligations.SingleErrorIsDetectedPairIsNot : Prop :=
  (∀ (p : ParitySense) (a b : List Byte) (c w : Byte) (e : Char7), e ≠ 0 → unpack w = unpack c ^^^ e →
    csum (a ++ w :: b) = csum (a ++ c :: b) ^^^ e
      ∧ decodeFrame ((encodeFrame p (a ++ c :: b)).set a.length w) = .checksumError)
    ∧ (∀ (p : ParitySense) (a b d : List Byte) (c₁ c₂ w₁ w₂ : Byte) (e : Char7),
        unpack w₁ = unpack c₁ ^^^ e → unpack w₂ = unpack c₂ ^^^ e →
        decodeFrame (((encodeFrame p (a ++ c₁ :: b ++ c₂ :: d)).set a.length w₁).set (a.length + 1 + b.length) w₂)
          = .ok ((a ++ w₁ :: b ++ w₂ :: d).map unpack ++ checkDigits (csum (a ++ c₁ :: b ++ c₂ :: d))))
    ∧ ∀ (r : List Byte) (i : Nat), decodeFrame (r.modify i (· ^^^ 0x80)) = decodeFrame r

/-! ### Encoding -/

/-- Every command has one word and every word is one command: the decoder and the encoder are inverse to each other. -/
def Obligations.DecodeAndEncodeAgree : Prop :=
  (∀ i : Instr, decode (encode i) = i) ∧ ∀ w : CmdWord, encode (decode w) = w

/-- Sanity: words written out from the opcode map R73 decode to the commands they stand for, at any data field. -/
def Obligations.OpcodeMapWordsDecode : Prop :=
  (∀ d : Byte,
    decode (0x0#4 ++ d) = .nop d ∧ decode (0x1#4 ++ d) = .encInit d ∧ decode (0x2#4 ++ d) = .encPush d
      ∧ decode (0x3#4 ++ d) = .encFinish d ∧ decode (0x4#4 ++ d) = .decInit d ∧ decode (0x5#4 ++ d) = .decPush d
      ∧ decode (0x6#4 ++ d) = .decCheck d ∧ decode (0x7#4 ++ d) = .pack d ∧ decode (0x8#4 ++ d) = .lookup d
      ∧ decode (0x9#4 ++ d) = .cfg d ∧ decode (0xA#4 ++ d) = .clrerr d ∧ decode (0xB#4 ++ d) = .reservedB d
      ∧ decode (0xC#4 ++ d) = .reservedC d ∧ decode (0xD#4 ++ d) = .reservedD d ∧ decode (0xE#4 ++ d) = .reservedE d
      ∧ decode (0xF#4 ++ d) = .sreset d)
    ∧ decode 0x256 = .encPush 0x56 ∧ decode 0x453 = .decInit 0x53 ∧ decode 0x901 = .cfg 0x01 ∧ decode 0xF00 = .sreset 0x00

/-- R76: the words each mask mode accepts, counted out of all 4096; the well-formed commands are those `MASK` accepts. -/
def Obligations.AcceptedWordsAreTheCountedOnes : Prop :=
  (∀ (m : MaskMode) (w : CmdWord),
    Accepted m (decode w) ↔
      w ∈ [0x000, 0x100, 0x300, 0x600, 0xA00, 0xF00, 0x900, 0x901, 0x400, 0x456, 0x453, 0x44C, 0x458, 0x457, 0x452]
        ∨ (0x500 ≤ w ∧ w ≤ 0x5FF) ∨ (0x800 ≤ w ∧ w ≤ 0x8FF)
        ∨ (((0x200 ≤ w ∧ w ≤ 0x2FF) ∨ (0x700 ≤ w ∧ w ≤ 0x7FF)) ∧ (m = .mask ∨ w[7] = false)))
    ∧ ∀ i : Instr, WellFormed i ↔ Accepted .mask i

/-- R75: each word is either one accepted command or one error, a next state in both cases; a reserved operation raises
RESERVED_OP; and 0x000 is the only word that does nothing in every state. -/
def Obligations.EveryWordIsAcceptedOrOneError : Prop :=
  (∀ (w : CmdWord) (s : State),
    (Accepted s.maskMode (decode w) ∧ ∃ t, exec (decode w) s = .next t)
      ∨ ∃ c, commandError s.maskMode (decode w) = some c ∧ exec (decode w) s = .next (s.errorRecorded c.code))
    ∧ (∀ (w : CmdWord) (m : MaskMode), 0xB00 ≤ w → w ≤ 0xEFF → commandError m (decode w) = some .reservedOp)
    ∧ ∀ w : CmdWord, (∀ s : State, exec (decode w) s = .next s) ↔ w = 0x000

/-! ### The step -/

/-- A step takes the host's next command word and is `exec` of the command it decodes to, in the state without that word
(model's choice, log 1, for where the words wait). -/
def Obligations.StepRunsTheDecodedCommand : Prop :=
  (∀ (s : State) (w : CmdWord) (later : List Input), s.pending = .command w :: later →
    step s = exec (decode w) { s with pending := later })
    ∧ ∀ (s : State) (i : Instr) (later : List Input), s.pending = .command (encode i) :: later →
        step s = exec i { s with pending := later }

/-- R220, R221, R43, R174: a pulse of the reset input puts every register in its reset state, keeps `TX` and `RX`, accepts
no command and does what SRESET does; with nothing offered nothing changes (model's choices, log 1 to 3). -/
def Obligations.ResetInputActsAsSreset : Prop :=
  (∀ (s : State) (later : List Input), s.pending = .reset :: later →
    step s = .next { State.reset with tx := s.tx, rx := s.rx, pending := later }
      ∧ step s = exec (.sreset 0x00) { s with pending := later })
    ∧ ∀ s : State, s.pending = [] → step s = .next s

/-- The word placed for the next step is the one it runs, and the table's numbering decodes to the same command (model's
choice, log 1 and 6). -/
def Obligations.PlacedWordIsRunNext : Prop :=
  ∀ (s : State) (nbits w : Nat), 12 ≤ nbits → w < 4096 →
    step (s.withFetchWord nbits w) = exec (decode (BitVec.ofNat 12 w)) s
      ∧ decodeTableWord nbits w = some (decode (BitVec.ofNat 12 w))

/-- R56: the words the host has issued run one at a time in the order of issue, each in the state every earlier one left. -/
def Obligations.IssuedCommandsRunInOrder : Prop :=
  ∀ (ws : List CmdWord) (s : State) (later : List Input), s.pending = ws.map Input.command ++ later →
    Host.Core.run Sys2Proof.core ws.length s = runCommands (ws.map decode) { s with pending := later }

/-- The FCB never stops: a step, a command and a run of commands end in a next state, whatever is recorded in `ERR_CAUSE`.
That nothing stops it is deduced from R75, R190 and R192 (log 9), and that a step with nothing offered answers too is the
model's choice (log 2). -/
def Obligations.MachineAlwaysContinues : Prop :=
  (∀ s : State, Continues (step s)) ∧ (∀ (i : Instr) (s : State), Continues (exec i s))
    ∧ ∀ (is : List Instr) (s : State), Continues (runCommands is s)

/-! ### Command errors -/

/-- R191, R192: the code each failing command records, the first one kept, and nothing else changed; no command records a
code above 4; and a recorded error blocks nothing: a command has the same effect on everything but the error record
whatever the record holds. -/
def Obligations.EachFailingCommandRecordsItsCode : Prop :=
  (∀ (i : Instr) (s t : State), exec i s = .next t → t.errCause = s.errCause ∨ t.errCause.toNat ≤ 4)
    ∧ (∀ (i : Instr) (s : State) (cause : BitVec 3) (more : Bool), ∃ t u : State,
        exec i s = .next t ∧ exec i { s with errCause := cause, errMore := more } = .next u
          ∧ { u with errCause := t.errCause, errMore := t.errMore } = t)
    ∧ ∀ (s : State) (d : Byte),
    (exec (.reservedB d) s = .next (s.errorRecorded 1) ∧ exec (.reservedC d) s = .next (s.errorRecorded 1)
      ∧ exec (.reservedD d) s = .next (s.errorRecorded 1) ∧ exec (.reservedE d) s = .next (s.errorRecorded 1))
    ∧ (d[7] = true → s.maskMode = .reject →
        exec (.encPush d) s = .next (s.errorRecorded 2) ∧ exec (.pack d) s = .next (s.errorRecorded 2))
    ∧ (d ∉ [0x00, 0x56, 0x53, 0x4C, 0x58, 0x57, 0x52] → exec (.decInit d) s = .next (s.errorRecorded 3))
    ∧ (d ≠ 0x00 →
        exec (.nop d) s = .next (s.errorRecorded 4) ∧ exec (.encInit d) s = .next (s.errorRecorded 4)
          ∧ exec (.encFinish d) s = .next (s.errorRecorded 4) ∧ exec (.decCheck d) s = .next (s.errorRecorded 4)
          ∧ exec (.clrerr d) s = .next (s.errorRecorded 4) ∧ exec (.sreset d) s = .next (s.errorRecorded 4))
    ∧ (d.extractLsb' 1 7 ≠ 0 → exec (.cfg d) s = .next (s.errorRecorded 4))

/-- R175: a reserved operation raises RESERVED_OP (code 1) at every data field and does nothing else: no output, no verdict
bit, no other register. -/
def Obligations.ReservedOperationsOnlyRaise : Prop :=
  ∀ (s : State) (d : Byte) (i : Instr), i ∈ [.reservedB d, .reservedC d, .reservedD d, .reservedE d] →
    exec i s = .next { s with
      errCause := if s.errCause = 0 then 1 else s.errCause
      errMore := s.errMore || decide (s.errCause ≠ 0) }

/-- R38, R39: over a run without an accepted CLRERR or SRESET from an empty error record, `ERR_CAUSE` is the code of the first
command error and `ERR_MORE` says that there was another; a refused CLRERR or SRESET is itself such an error and ends
nothing (R173, R174). Accepted CLRERR and SRESET, and reset, leave an empty record. -/
def Obligations.FirstErrorWinsOverARun : Prop :=
  (∀ (is : List Instr) (s t : State), (∀ i ∈ is, endsErrorRecord i = false) →
    s.errCause = 0 → s.errMore = false → runCommands is s = .next t →
    t.errCause = (match (raisedErrors is s).head? with | none => 0 | some c => c.code)
      ∧ t.errMore = decide (2 ≤ (raisedErrors is s).length))
    ∧ (∀ (s : State) (i : Instr), i ∈ [.clrerr 0x00, .sreset 0x00] →
        ∃ t, exec i s = .next t ∧ t.errCause = 0 ∧ t.errMore = false)
    ∧ State.reset.errCause = 0 ∧ State.reset.errMore = false

/-! ### Encoder commands -/

/-- R121: ENC_INIT clears the checksum and emits nothing; a nonzero data field raises RESERVED_FIELD. -/
def Obligations.EncInitClearsChecksum : Prop :=
  ∀ s : State, exec (.encInit 0x00) s = .next { s with encAcc := 0x00 }
    ∧ ∀ d : Byte, d ≠ 0x00 → exec (.encInit d) s = .next (s.errorRecorded 4)

/-- R122: ENC_PUSH adds the low seven bits of its data to the checksum and appends their packed byte to `TX`; under MASK
the data bit 7 makes no difference; under REJECT a set bit 7 raises DATA_NOT_7BIT with no other effect. -/
def Obligations.EncPushAddsAndEmits : Prop :=
  ∀ (s : State) (d : Byte),
    (d[7] = false ∨ s.maskMode = .mask →
      exec (.encPush d) s = .next { s with
        encAcc := s.encAcc ^^^ d.setWidth 7
        tx := s.tx ++ [pack .odd (d.setWidth 7)] })
    ∧ (s.maskMode = .mask → exec (.encPush (d ^^^ 0x80)) s = exec (.encPush d) s)
    ∧ (d[7] = true → s.maskMode = .reject → exec (.encPush d) s = .next (s.errorRecorded 2))

/-- R123: ENC_FINISH appends the two packed checksum digits, high digit first and never above `7`, and clears the
checksum; with an empty message they are 0xB0, 0xB0; a nonzero data field raises RESERVED_FIELD and emits
nothing. -/
def Obligations.EncFinishEmitsTheDigits : Prop :=
  ∀ s : State,
    exec (.encFinish 0x00) s = .next { s with
      encAcc := 0x00
      tx := s.tx ++ [pack .odd (hexd (BitVec.ofNat 4 (s.encAcc.toNat / 16))),
        pack .odd (hexd (BitVec.ofNat 4 (s.encAcc.toNat % 16)))] }
    ∧ hexd (BitVec.ofNat 4 (s.encAcc.toNat / 16)) ≤ 0x37
    ∧ (s.encAcc = 0x00 → exec (.encFinish 0x00) s = .next { s with tx := s.tx ++ [0xB0, 0xB0] })
    ∧ ∀ d : Byte, d ≠ 0x00 → exec (.encFinish d) s = .next (s.errorRecorded 4)

/-- R124: PACK writes the packed byte, zero-extended, to `RESULT` and touches no message state; the two corner cases under
MASK; DATA_NOT_7BIT as in ENC_PUSH. -/
def Obligations.PackWritesResultOnly : Prop :=
  ∀ (s : State) (d : Byte),
    (d[7] = false ∨ s.maskMode = .mask →
      exec (.pack d) s = .next { s with result := (0x00 : Byte) ++ pack .odd (d.setWidth 7) })
    ∧ (s.maskMode = .mask → exec (.pack 0x80) s = .next { s with result := 0x0080 }
        ∧ exec (.pack 0xFF) s = .next { s with result := 0x007F })
    ∧ (d[7] = true → s.maskMode = .reject → exec (.pack d) s = .next (s.errorRecorded 2))

/-! ### Decoder commands -/

/-- R141, R142: DEC_INIT empties the history, selects raw mode or a row of the reply table, and clears the verdict bits;
any other value raises UNKNOWN_CMD and changes no decoder register. -/
def Obligations.DecInitSelectsTheReply : Prop :=
  (∀ (s : State) (d : Byte) (v : Bool) (m : Char7) (l : BitVec 8),
    (d, v, m, l) ∈ [((0x00 : Byte), false, (0x00 : Char7), (0 : BitVec 8)), (0x56, true, 0x76, 7), (0x53, true, 0x73, 67),
      (0x4C, true, 0x6C, 3), (0x58, true, 0x78, 3), (0x57, true, 0x77, 7), (0x52, true, 0x72, 7)] →
    exec (.decInit d) s = .next { s with
      decAcc := 0x00, decH1 := 0x00, decH0 := 0x00, decFirst := 0x00, decCnt := 0x00, decOvf := false,
      expValid := v, expMark := m, expLen := l, statusLow := 0 } ∧ replyTable d = ⟨v, m, l⟩)
    ∧ ∀ (s : State) (d : Byte), d ∉ [0x00, 0x56, 0x53, 0x4C, 0x58, 0x57, 0x52] →
        exec (.decInit d) s = .next (s.errorRecorded 3) ∧ replyTable d = ⟨false, 0x00, 0⟩

/-- R143: DEC_PUSH shifts the history by one character, counts it up to 255 and sets the overflow bit beyond, clears the
verdict bits and appends the character to `RX`; bit 7 of the wire byte makes no difference. -/
def Obligations.DecPushShiftsTheHistory : Prop :=
  ∀ (s : State) (b : Byte),
    exec (.decPush b) s = .next { s with
      decAcc := if s.decCnt.toNat < 2 then s.decAcc else s.decAcc ^^^ s.decH1
      decH1 := s.decH0
      decH0 := b.setWidth 7
      decFirst := if s.decCnt.toNat = 0 then b.setWidth 7 else s.decFirst
      decCnt := BitVec.ofNat 8 (min (s.decCnt.toNat + 1) 255)
      decOvf := s.decOvf || decide (s.decCnt.toNat = 255)
      statusLow := 0
      rx := s.rx ++ [b.setWidth 7] }
    ∧ exec (.decPush (b ^^^ 0x80)) s = exec (.decPush b) s

/-- R144: DEC_CHECK writes `STATUS[5:0]` and nothing else, and each bit it writes is the one the verdict function gives. -/
def Obligations.DecCheckLatchesTheVerdict : Prop :=
  ∀ s : State, ∃ v : BitVec 6, exec (.decCheck 0x00) s = .next { s with statusLow := v }
    ∧ v[0] = true
    ∧ (v[2] = true ↔ s.decOvf = false ∧ s.decCnt.toNat < 3)
    ∧ (v[3] = true ↔ ¬(s.decOvf = false ∧ s.decCnt.toNat < 3) ∧ (s.decH1, s.decH0) ≠ hex2 s.decAcc)
    ∧ (v[4] = true ↔ s.expValid = true ∧ (s.decOvf = true ∨ s.decCnt ≠ s.expLen))
    ∧ (v[5] = true ↔
        s.expValid = true ∧ ¬(v[2] = true ∨ v[3] = true ∨ v[4] = true) ∧ s.decFirst ≠ s.expMark)
    ∧ (v[1] = true ↔
        ¬(v[2] = true ∨ v[3] = true ∨ v[4] = true ∨ v[5] = true))

/-- R145: the seven possible values of `STATUS[5:0]` after DEC_CHECK, each of them taken in a state that meets the invariant;
a second DEC_CHECK changes nothing; with no characters the verdict is 0x05 in raw mode and 0x15 in table mode (an expected length other than
0); a nonzero data field raises RESERVED_FIELD. -/
def Obligations.VerdictHasSevenValues : Prop :=
  (∀ s t : State, exec (.decCheck 0x00) s = .next t →
    t = { s with statusLow := s.verdict }
      ∧ t.statusLow ∈ [0x03, 0x05, 0x09, 0x11, 0x15, 0x19, 0x21] ∧ exec (.decCheck 0x00) t = .next t)
    ∧ (∀ v ∈ [0x03, 0x05, 0x09, 0x11, 0x15, 0x19, 0x21],
        ∃ s t : State, Inv s ∧ exec (.decCheck 0x00) s = .next t ∧ t.statusLow = v)
    ∧ (∀ s : State, s.decCnt = 0 → s.decOvf = false →
        (s.expValid = false → exec (.decCheck 0x00) s = .next { s with statusLow := 0x05 })
          ∧ (s.expValid = true → s.expLen ≠ 0 → exec (.decCheck 0x00) s = .next { s with statusLow := 0x15 }))
    ∧ ∀ (s : State) (d : Byte), d ≠ 0x00 → exec (.decCheck d) s = .next (s.errorRecorded 4)

/-- R147: LOOKUP writes marker and length of the row to `RESULT`, 0x0000 for every other value, and nothing else. -/
def Obligations.LookupReadsTheReplyTable : Prop :=
  (∀ (s : State) (d : Byte) (r : BitVec 16),
    (d, r) ∈ [((0x56 : Byte), (0x7607 : BitVec 16)), (0x53, 0x7343), (0x4C, 0x6C03), (0x58, 0x7803), (0x57, 0x7707),
      (0x52, 0x7207)] →
    exec (.lookup d) s = .next { s with result := r })
    ∧ ∀ (s : State) (d : Byte), d ∉ [0x56, 0x53, 0x4C, 0x58, 0x57, 0x52] →
        exec (.lookup d) s = .next { s with result := 0x0000 }

/-! ### Control commands -/

/-- R170: NOP leaves every register and both streams unchanged; NOP with a nonzero data field raises RESERVED_FIELD. -/
def Obligations.NopChangesNothing : Prop :=
  ∀ s : State, exec (.nop 0x00) s = .next s ∧ ∀ d : Byte, d ≠ 0x00 → exec (.nop d) s = .next (s.errorRecorded 4)

/-- R172, R86: CFG writes bit 0 of its data field to the mask mode; reserved bits raise RESERVED_FIELD and keep the mode. -/
def Obligations.CfgSetsTheMaskMode : Prop :=
  ∀ s : State, exec (.cfg 0x00) s = .next { s with maskMode := .mask }
    ∧ exec (.cfg 0x01) s = .next { s with maskMode := .reject }
    ∧ ∀ d : Byte, d.extractLsb' 1 7 ≠ 0 → exec (.cfg d) s = .next (s.errorRecorded 4)

/-- R173: CLRERR clears the error record, so that ERR reads 0 and the other `STATUS` bits are as before; with a nonzero data
field the old record stays, and `ERR_MORE` becomes 1 where there was one. -/
def Obligations.ClrerrEndsTheErrorRecord : Prop :=
  (∀ s : State, ∃ t, exec (.clrerr 0x00) s = .next t ∧ t = { s with errCause := 0, errMore := false }
    ∧ t.status[7] = false ∧ t.status.extractLsb' 0 6 = s.status.extractLsb' 0 6)
    ∧ ∀ (s : State) (d : Byte), d ≠ 0x00 → exec (.clrerr d) s = .next (s.errorRecorded 4)
        ∧ (s.errCause ≠ 0 → exec (.clrerr d) s = .next { s with errMore := true })

/-- R174: SRESET sets every register to its reset value and leaves `TX` and `RX`; a nonzero data field raises
RESERVED_FIELD. The host's own inputs are no register of the FCB (log 1). -/
def Obligations.SresetKeepsOnlyTheStreams : Prop :=
  ∀ s : State,
    exec (.sreset 0x00) s = .next {
      encAcc := 0x00, decAcc := 0x00, decH1 := 0x00, decH0 := 0x00, decFirst := 0x00, decCnt := 0x00, decOvf := false,
      expValid := false, expMark := 0x00, expLen := 0x00, statusLow := 0, errCause := 0, errMore := false,
      result := 0x0000, maskMode := .mask, tx := s.tx, rx := s.rx, pending := s.pending }
    ∧ exec (.sreset 0x00) s = .next { State.reset with tx := s.tx, rx := s.rx, pending := s.pending }
    ∧ ∀ d : Byte, d ≠ 0x00 → exec (.sreset d) s = .next (s.errorRecorded 4)

/-! ### Whole-machine rules -/

/-- R120, R140, R171: the frames of the families: an encoder command changes no decoder register, verdict bit or `RX`; a
decoder command changes neither `ENC_ACC` nor `TX`; NOP, CFG and CLRERR change neither side; SRESET keeps the streams. -/
def Obligations.FamiliesKeepToTheirState : Prop :=
  ∀ (i : Instr) (s t : State), exec i s = .next t →
    (i.isEncoder = true → SameDecoder s t)
      ∧ (i.isDecoder = true → t.encAcc = s.encAcc ∧ t.tx = s.tx)
      ∧ (∀ d : Byte, i ∈ [.nop d, .cfg d, .clrerr d] → SameDecoder s t ∧ t.encAcc = s.encAcc ∧ t.tx = s.tx)
      ∧ (∀ d : Byte, i = .sreset d → t.tx = s.tx ∧ t.rx = s.rx)

/-- R58: in any interleaving the encoder's results are those of the run without the decoder commands, and the decoder's
results are those of the run without the encoder commands. -/
def Obligations.EncoderAndDecoderAreIndependent : Prop :=
  ∀ (is : List Instr) (s : State), ∃ t e d : State,
    runCommands is s = .next t
      ∧ runCommands (is.filter fun i => !i.isDecoder) s = .next e ∧ SameEncoder t e
      ∧ runCommands (is.filter fun i => !i.isEncoder) s = .next d ∧ SameDecoder t d

/-- R22, "Written by": a register that a command changes names that command among its writers, and the command was accepted: a
command that raises an error changes only the error record (R192). That no command touches the host's inputs is the
model's choice (log 1): `pending` is no register of R22. -/
def Obligations.RegistersHaveTheirWriters : Prop :=
  ∀ (i : Instr) (s t : State), exec i s = .next t →
    (t.encAcc ≠ s.encAcc → Accepted s.maskMode i ∧ ∃ d, i ∈ [.encInit d, .encPush d, .encFinish d, .sreset d])
      ∧ ((t.decAcc, t.decH1, t.decH0, t.decFirst, t.decCnt, t.decOvf)
            ≠ (s.decAcc, s.decH1, s.decH0, s.decFirst, s.decCnt, s.decOvf) →
          Accepted s.maskMode i ∧ ∃ d, i ∈ [.decInit d, .decPush d, .sreset d])
      ∧ ((t.expValid, t.expMark, t.expLen) ≠ (s.expValid, s.expMark, s.expLen) →
          Accepted s.maskMode i ∧ ∃ d, i ∈ [.decInit d, .sreset d])
      ∧ (t.statusLow ≠ s.statusLow →
          Accepted s.maskMode i ∧ ∃ d, i ∈ [.decInit d, .decPush d, .decCheck d, .sreset d])
      ∧ ((t.errCause, t.errMore) ≠ (s.errCause, s.errMore) →
          ¬Accepted s.maskMode i ∨ (Accepted s.maskMode i ∧ ∃ d, i ∈ [.clrerr d, .sreset d]))
      ∧ (t.result ≠ s.result → Accepted s.maskMode i ∧ ∃ d, i ∈ [.pack d, .lookup d, .sreset d])
      ∧ (t.maskMode ≠ s.maskMode → Accepted s.maskMode i ∧ ∃ d, i ∈ [.cfg d, .sreset d])
      ∧ (t.tx ≠ s.tx → Accepted s.maskMode i ∧ ∃ d, i ∈ [.encPush d, .encFinish d])
      ∧ (t.rx ≠ s.rx → Accepted s.maskMode i ∧ ∃ d, i = .decPush d)
      ∧ t.pending = s.pending

/-- R42, R43, R61, R224: a step never removes an element of `TX` or `RX`, a reset included; it appends at most two bytes and
one character, and the report the host gets is exactly what was appended. -/
def Obligations.StreamsOnlyGrow : Prop :=
  ∀ s t : State, step s = .next t →
    t.tx = s.tx ++ (reportOf s t).txAppended ∧ t.rx = s.rx ++ (reportOf s t).rxAppended
      ∧ (reportOf s t).txAppended.length ≤ 2 ∧ (reportOf s t).rxAppended.length ≤ 1

/-- R35, R233: the layout of `STATUS`, and the commands that clear a verdict: DEC_INIT where it is accepted, DEC_PUSH and
SRESET; no command but DEC_CHECK makes DONE 1. -/
def Obligations.StatusBitsAreAsLaidOut : Prop :=
  (∀ s : State, s.status[6] = false ∧ (s.status[7] = true ↔ s.errCause ≠ 0)
    ∧ ∀ i : Nat, i < 6 → s.status.getLsbD i = s.statusLow.getLsbD i)
    ∧ (∀ (i : Instr) (s t : State) (d : Byte), exec i s = .next t → i ∈ [.decInit d, .decPush d, .sreset d] →
        commandError s.maskMode i = none → t.status.extractLsb' 0 6 = 0)
    ∧ ∀ (i : Instr) (s t : State), exec i s = .next t → t.flagDone = true → s.flagDone = true ∨ i = .decCheck 0x00

/-- R146, R194, R195: how the host reads the verdict: SHORT, CSUM or LEN is Malformed and hides the marker; MARK stands alone
and is UnexpectedReply; OK stands alone and is the accepted reply; before DEC_CHECK there is no verdict. -/
def Obligations.VerdictReadsAsTheErrorTaxonomy : Prop :=
  (∀ s t : State, exec (.decCheck 0x00) s = .next t →
    (t.replyOutcome = .malformed ↔ t.flagShort = true ∨ t.flagCsum = true ∨ t.flagLen = true)
      ∧ (t.replyOutcome = .unexpectedReply ↔ t.flagMark = true)
      ∧ (t.replyOutcome = .accepted ↔ t.flagOk = true)
      ∧ t.replyOutcome ≠ .noVerdict
      ∧ (t.flagMark = true → t.flagShort = false ∧ t.flagCsum = false ∧ t.flagLen = false)
      ∧ ¬(t.flagShort = true ∧ t.flagCsum = true))
    ∧ ∀ (s t : State) (b : Byte), exec (.decPush b) s = .next t → t.replyOutcome = .noVerdict

/-- R150: in table mode OK needs the exact expected count without overflow. -/
def Obligations.NoPartialReplyIsAccepted : Prop :=
  ∀ s t : State, s.expValid = true → exec (.decCheck 0x00) s = .next t → t.status[1] = true →
    t.decCnt = t.expLen ∧ t.decOvf = false

/-! ### Streams and replies -/

/-- R26: ENC_INIT, ENC_FINISH and reset clear the checksum, and from there, after any accepted pushes, `ENC_ACC` is the
checksum of what was pushed, 0x00 for nothing. -/
def Obligations.EncoderAccumulatesTheChecksum : Prop :=
  (∀ (s : State) (i : Instr), i ∈ [.encInit 0x00, .encFinish 0x00, .sreset 0x00] →
    ∃ t, exec i s = .next t ∧ t.encAcc = 0x00)
    ∧ State.reset.encAcc = 0x00
    ∧ ∀ (m : List Byte) (s : State), s.encAcc = 0x00 → (∀ d ∈ m, EncoderAccepts s.maskMode d) →
      ∃ t, runCommands (m.map Instr.encPush) s = .next t ∧ t.encAcc = csum m

/-- R125: the encoder emits exactly the source's frame and ends with a cleared checksum; nothing else changes. -/
def Obligations.EncoderEmitsTheFrame : Prop :=
  ∀ (m : List Byte) (s : State), s.encAcc = 0x00 → (∀ d ∈ m, EncoderAccepts s.maskMode d) →
    runCommands (m.map Instr.encPush ++ [.encFinish 0x00]) s = .next { s with tx := s.tx ++ encodeFrame .odd m }

/-- R126: under REJECT the rejected characters leave no trace but the error record: checksum and `TX` are those of the
accepted ones, `ERR_CAUSE` and `ERR_MORE` record the rejected ones as R192 says, and nothing else changes. -/
def Obligations.RejectedCharactersDoNotEndTheMessage : Prop :=
  ∀ (m : List Byte) (s : State), s.maskMode = .reject →
    let accepted := m.filter fun d => !d[7]
    let rejected := m.filter fun d => d[7]
    runCommands (m.map Instr.encPush) s = .next { s with
      encAcc := s.encAcc ^^^ csum accepted
      tx := s.tx ++ accepted.map (fun d => pack .odd (unpack d))
      errCause := if s.errCause = 0 ∧ rejected ≠ [] then 2 else s.errCause
      errMore := s.errMore || decide ((s.errCause ≠ 0 ∧ rejected ≠ []) ∨ 2 ≤ rejected.length) }

/-- R32: after an accepted DEC_INIT or a reset the history is empty, and pushing wire bytes appends their characters to the
history the decoder registers hold, of any length. -/
def Obligations.DecoderHoldsTheHistory : Prop :=
  (∀ (s t : State) (d : Byte), commandError s.maskMode (.decInit d) = none → exec (.decInit d) s = .next t →
    HoldsHistory t [])
    ∧ HoldsHistory State.reset []
    ∧ (∀ s t : State, exec (.sreset 0x00) s = .next t → HoldsHistory t [])
    ∧ ∀ (bs : List Byte) (s : State) (cs : List Char7), HoldsHistory s cs →
        ∃ t, runCommands (bs.map Instr.decPush) s = .next t ∧ HoldsHistory t (cs ++ bs.map unpack)
          ∧ t.rx = s.rx ++ bs.map unpack

/-- R148: in raw mode the verdict of a reply of any length is that of the source's `decode`. -/
def Obligations.RawModeAgreesWithDecode : Prop :=
  ∀ (r : List Byte) (s : State), ∃ t, runCommands (Pseudo.verify 0x00 r).expand s = .next t
    ∧ (t.flagShort = true ↔ decodeFrame r = .invalid)
    ∧ (t.flagCsum = true ↔ decodeFrame r = .checksumError)
    ∧ (t.flagOk = true ↔ ∃ cs, decodeFrame r = .ok cs)
    ∧ t.flagLen = false ∧ t.flagMark = false ∧ t.rx = s.rx ++ r.map unpack

/-- R149: in table mode a reply is accepted exactly when the source's `decode` accepts it, it has the expected length and its
first character is the expected marker. -/
def Obligations.TableModeAcceptsExactlyTheReply : Prop :=
  ∀ (r : List Byte) (s : State) (letter : Byte) (m : Char7) (len : BitVec 8), replyTable letter = ⟨true, m, len⟩ →
    ∃ t, runCommands (Pseudo.verify letter r).expand s = .next t
      ∧ (t.flagOk = true ↔
          (∃ cs, decodeFrame r = .ok cs) ∧ r.length = len.toNat ∧ (r.map unpack).head? = some m)

/-- The property the source states for whole strings, over the two halves of the FCB: what ENCODE emits, VERIFY RAW accepts
for a message with at least one character, and finds short for the empty one (R109, R125, R148; conflict C3). -/
def Obligations.EncodedMessageVerifies : Prop :=
  ∀ (m : List Byte) (s : State), (∀ d ∈ m, EncoderAccepts s.maskMode d) →
    ∃ t u, runCommands (Pseudo.encode m).expand s = .next t
      ∧ runCommands (Pseudo.verify 0x00 (t.tx.drop s.tx.length)).expand t = .next u
      ∧ u.statusLow = if m = [] then 0x05 else 0x03

/-! ### Reset and the invariant -/

/-- R221, R22: the values of the registers and streams right after reset. -/
def Obligations.ResetValuesAreTheTables : Prop :=
  let s := State.reset
  s.encAcc = 0x00 ∧ s.decAcc = 0x00 ∧ s.decH1 = 0x00 ∧ s.decH0 = 0x00 ∧ s.decFirst = 0x00 ∧ s.decCnt = 0x00
    ∧ s.decOvf = false ∧ s.expValid = false ∧ s.expMark = 0x00 ∧ s.expLen = 0x00 ∧ s.status = 0x00 ∧ s.errCause = 0
    ∧ s.errMore = false ∧ s.result = 0x0000 ∧ s.maskMode = .mask ∧ s.tx = [] ∧ s.rx = []

/-- The invariant of Safety.lean holds right after reset. -/
def Obligations.ResetMeetsTheInvariant : Prop := Inv State.reset

/-- Every step from a state that meets the invariant gives a state that meets it: defined error codes, a current verdict, a
consistent decoder history, a table entry in the expected-reply registers, odd parity of every emitted byte. -/
def Obligations.StepKeepsTheInvariant : Prop := ∀ s t : State, Inv s → step s = .next t → Inv t

/-! ### The assembler -/

/-- R90: the text of a command assembles to that command and its word, and every command a mask mode accepts has a text. -/
def Obligations.AssemblingTheTextGivesTheCommand : Prop :=
  (∀ (i : Instr) (text : List Char), render i = some text →
    assembleLine text = .ok [i] ∧ assembleLines [text] = .ok [encode i])
    ∧ ∀ (m : MaskMode) (i : Instr), Accepted m i → (render i).isSome = true

/-- R91: the line `ENCODE "s"` assembles to the expansion of the pseudo-command, for every string of 7-bit characters without
a double quote (log 8). -/
def Obligations.EncodeLineExpands : Prop :=
  ∀ m : List Char, (∀ c ∈ m, c.toNat < 128 ∧ c ≠ '"') →
    assembleLine ("ENCODE \"".toList ++ m ++ ['"'])
      = .ok (.encInit 0x00 :: m.map (fun c => Instr.encPush (BitVec.ofNat 8 c.toNat)) ++ [.encFinish 0x00])
end

