-- ==== Sys2Proof/Laws/Codec.lean ====
section
/-!
SUPPORT. Lemmas about the codec functions: the checksum as a fold, the shapes of frames, and the forms of `unpack`.
-/

namespace Sys2Proof.Machine

@[simp] theorem xorAll_nil : xorAll [] = 0 := rfl

@[simp] theorem xorAll_cons (c : Char7) (cs : List Char7) : xorAll (c :: cs) = c ^^^ xorAll cs := rfl

theorem xorAll_append (as bs : List Char7) : xorAll (as ++ bs) = xorAll as ^^^ xorAll bs := by
  induction as with
  | nil => simp
  | cons a as ih => simp [ih, BitVec.xor_assoc]

@[simp] theorem csum_nil : csum [] = 0 := rfl

@[simp] theorem csum_cons (c : Byte) (s : List Byte) : csum (c :: s) = unpack c ^^^ csum s := rfl

theorem csum_append (s t : List Byte) : csum (s ++ t) = csum s ^^^ csum t := by
  simp [csum, xorAll_append]

theorem unpack_eq_setWidth (b : Byte) : unpack b = b.setWidth 7 := by
  ext i hi
  simp [unpack]

@[simp] theorem checkDigits_length (a : Char7) : (checkDigits a).length = 2 := rfl

@[simp] theorem framedString_length (s : List Byte) : (framedString s).length = s.length + 2 := by
  simp [framedString]

/-- The two digits name the checksum: no other checksum has them. -/
theorem checkDigits_injective : ∀ a b : Char7, checkDigits a = checkDigits b → a = b := by
  have digit : ∀ m n : BitVec 4, hexd m = hexd n → m = n := by decide
  intro a b h
  simp only [checkDigits, hex2, List.cons.injEq, and_true] at h
  have hHigh := digit _ _ h.1
  have hLow := digit _ _ h.2
  have high := congrArg BitVec.toNat hHigh
  have low := congrArg BitVec.toNat hLow
  simp only [BitVec.toNat_setWidth, BitVec.extractLsb'_toNat, Nat.shiftRight_eq_div_pow] at high low
  apply BitVec.eq_of_toNat_eq
  omega

end Sys2Proof.Machine
end

