-- ==== Sys2Proof/Laws/State.lean ====
section
/-!
SUPPORT. What each named operation does to each field of the state: one lemma per operation and field, so that no later
proof unfolds a record update; and the verdict reads the decoder registers alone.
-/

namespace Sys2Proof.Machine.State

section
variable (s : State) (c : CmdError)

@[simp] theorem raise_encAcc : (s.raise c).encAcc = s.encAcc := by unfold raise; split <;> rfl
@[simp] theorem raise_decAcc : (s.raise c).decAcc = s.decAcc := by unfold raise; split <;> rfl
@[simp] theorem raise_decH1 : (s.raise c).decH1 = s.decH1 := by unfold raise; split <;> rfl
@[simp] theorem raise_decH0 : (s.raise c).decH0 = s.decH0 := by unfold raise; split <;> rfl
@[simp] theorem raise_decFirst : (s.raise c).decFirst = s.decFirst := by unfold raise; split <;> rfl
@[simp] theorem raise_decCnt : (s.raise c).decCnt = s.decCnt := by unfold raise; split <;> rfl
@[simp] theorem raise_decOvf : (s.raise c).decOvf = s.decOvf := by unfold raise; split <;> rfl
@[simp] theorem raise_expValid : (s.raise c).expValid = s.expValid := by unfold raise; split <;> rfl
@[simp] theorem raise_expMark : (s.raise c).expMark = s.expMark := by unfold raise; split <;> rfl
@[simp] theorem raise_expLen : (s.raise c).expLen = s.expLen := by unfold raise; split <;> rfl
@[simp] theorem raise_statusLow : (s.raise c).statusLow = s.statusLow := by unfold raise; split <;> rfl
@[simp] theorem raise_errCause : (s.raise c).errCause = if s.errCause = 0 then c.code else s.errCause := by unfold raise; split <;> rfl
@[simp] theorem raise_errMore : (s.raise c).errMore = if s.errCause = 0 then s.errMore else true := by unfold raise; split <;> rfl
@[simp] theorem raise_result : (s.raise c).result = s.result := by unfold raise; split <;> rfl
@[simp] theorem raise_maskMode : (s.raise c).maskMode = s.maskMode := by unfold raise; split <;> rfl
@[simp] theorem raise_tx : (s.raise c).tx = s.tx := by unfold raise; split <;> rfl
@[simp] theorem raise_rx : (s.raise c).rx = s.rx := by unfold raise; split <;> rfl
@[simp] theorem raise_pending : (s.raise c).pending = s.pending := by unfold raise; split <;> rfl

end

section
variable (s : State)

@[simp] theorem clearErrors_encAcc : s.clearErrors.encAcc = s.encAcc := rfl
@[simp] theorem clearErrors_decAcc : s.clearErrors.decAcc = s.decAcc := rfl
@[simp] theorem clearErrors_decH1 : s.clearErrors.decH1 = s.decH1 := rfl
@[simp] theorem clearErrors_decH0 : s.clearErrors.decH0 = s.decH0 := rfl
@[simp] theorem clearErrors_decFirst : s.clearErrors.decFirst = s.decFirst := rfl
@[simp] theorem clearErrors_decCnt : s.clearErrors.decCnt = s.decCnt := rfl
@[simp] theorem clearErrors_decOvf : s.clearErrors.decOvf = s.decOvf := rfl
@[simp] theorem clearErrors_expValid : s.clearErrors.expValid = s.expValid := rfl
@[simp] theorem clearErrors_expMark : s.clearErrors.expMark = s.expMark := rfl
@[simp] theorem clearErrors_expLen : s.clearErrors.expLen = s.expLen := rfl
@[simp] theorem clearErrors_statusLow : s.clearErrors.statusLow = s.statusLow := rfl
@[simp] theorem clearErrors_errCause : s.clearErrors.errCause = 0 := rfl
@[simp] theorem clearErrors_errMore : s.clearErrors.errMore = false := rfl
@[simp] theorem clearErrors_result : s.clearErrors.result = s.result := rfl
@[simp] theorem clearErrors_maskMode : s.clearErrors.maskMode = s.maskMode := rfl
@[simp] theorem clearErrors_tx : s.clearErrors.tx = s.tx := rfl
@[simp] theorem clearErrors_rx : s.clearErrors.rx = s.rx := rfl
@[simp] theorem clearErrors_pending : s.clearErrors.pending = s.pending := rfl

end

section
variable (s : State) (b : Byte)

@[simp] theorem emitTx_encAcc : (s.emitTx b).encAcc = s.encAcc := rfl
@[simp] theorem emitTx_decAcc : (s.emitTx b).decAcc = s.decAcc := rfl
@[simp] theorem emitTx_decH1 : (s.emitTx b).decH1 = s.decH1 := rfl
@[simp] theorem emitTx_decH0 : (s.emitTx b).decH0 = s.decH0 := rfl
@[simp] theorem emitTx_decFirst : (s.emitTx b).decFirst = s.decFirst := rfl
@[simp] theorem emitTx_decCnt : (s.emitTx b).decCnt = s.decCnt := rfl
@[simp] theorem emitTx_decOvf : (s.emitTx b).decOvf = s.decOvf := rfl
@[simp] theorem emitTx_expValid : (s.emitTx b).expValid = s.expValid := rfl
@[simp] theorem emitTx_expMark : (s.emitTx b).expMark = s.expMark := rfl
@[simp] theorem emitTx_expLen : (s.emitTx b).expLen = s.expLen := rfl
@[simp] theorem emitTx_statusLow : (s.emitTx b).statusLow = s.statusLow := rfl
@[simp] theorem emitTx_errCause : (s.emitTx b).errCause = s.errCause := rfl
@[simp] theorem emitTx_errMore : (s.emitTx b).errMore = s.errMore := rfl
@[simp] theorem emitTx_result : (s.emitTx b).result = s.result := rfl
@[simp] theorem emitTx_maskMode : (s.emitTx b).maskMode = s.maskMode := rfl
@[simp] theorem emitTx_tx : (s.emitTx b).tx = s.tx ++ [b] := rfl
@[simp] theorem emitTx_rx : (s.emitTx b).rx = s.rx := rfl
@[simp] theorem emitTx_pending : (s.emitTx b).pending = s.pending := rfl

end

section
variable (s : State) (c : Char7)

@[simp] theorem emitRx_encAcc : (s.emitRx c).encAcc = s.encAcc := rfl
@[simp] theorem emitRx_decAcc : (s.emitRx c).decAcc = s.decAcc := rfl
@[simp] theorem emitRx_decH1 : (s.emitRx c).decH1 = s.decH1 := rfl
@[simp] theorem emitRx_decH0 : (s.emitRx c).decH0 = s.decH0 := rfl
@[simp] theorem emitRx_decFirst : (s.emitRx c).decFirst = s.decFirst := rfl
@[simp] theorem emitRx_decCnt : (s.emitRx c).decCnt = s.decCnt := rfl
@[simp] theorem emitRx_decOvf : (s.emitRx c).decOvf = s.decOvf := rfl
@[simp] theorem emitRx_expValid : (s.emitRx c).expValid = s.expValid := rfl
@[simp] theorem emitRx_expMark : (s.emitRx c).expMark = s.expMark := rfl
@[simp] theorem emitRx_expLen : (s.emitRx c).expLen = s.expLen := rfl
@[simp] theorem emitRx_statusLow : (s.emitRx c).statusLow = s.statusLow := rfl
@[simp] theorem emitRx_errCause : (s.emitRx c).errCause = s.errCause := rfl
@[simp] theorem emitRx_errMore : (s.emitRx c).errMore = s.errMore := rfl
@[simp] theorem emitRx_result : (s.emitRx c).result = s.result := rfl
@[simp] theorem emitRx_maskMode : (s.emitRx c).maskMode = s.maskMode := rfl
@[simp] theorem emitRx_tx : (s.emitRx c).tx = s.tx := rfl
@[simp] theorem emitRx_rx : (s.emitRx c).rx = s.rx ++ [c] := rfl
@[simp] theorem emitRx_pending : (s.emitRx c).pending = s.pending := rfl

end

section
variable (s : State) (a : Char7)

@[simp] theorem setEncAcc_encAcc : (s.setEncAcc a).encAcc = a := rfl
@[simp] theorem setEncAcc_decAcc : (s.setEncAcc a).decAcc = s.decAcc := rfl
@[simp] theorem setEncAcc_decH1 : (s.setEncAcc a).decH1 = s.decH1 := rfl
@[simp] theorem setEncAcc_decH0 : (s.setEncAcc a).decH0 = s.decH0 := rfl
@[simp] theorem setEncAcc_decFirst : (s.setEncAcc a).decFirst = s.decFirst := rfl
@[simp] theorem setEncAcc_decCnt : (s.setEncAcc a).decCnt = s.decCnt := rfl
@[simp] theorem setEncAcc_decOvf : (s.setEncAcc a).decOvf = s.decOvf := rfl
@[simp] theorem setEncAcc_expValid : (s.setEncAcc a).expValid = s.expValid := rfl
@[simp] theorem setEncAcc_expMark : (s.setEncAcc a).expMark = s.expMark := rfl
@[simp] theorem setEncAcc_expLen : (s.setEncAcc a).expLen = s.expLen := rfl
@[simp] theorem setEncAcc_statusLow : (s.setEncAcc a).statusLow = s.statusLow := rfl
@[simp] theorem setEncAcc_errCause : (s.setEncAcc a).errCause = s.errCause := rfl
@[simp] theorem setEncAcc_errMore : (s.setEncAcc a).errMore = s.errMore := rfl
@[simp] theorem setEncAcc_result : (s.setEncAcc a).result = s.result := rfl
@[simp] theorem setEncAcc_maskMode : (s.setEncAcc a).maskMode = s.maskMode := rfl
@[simp] theorem setEncAcc_tx : (s.setEncAcc a).tx = s.tx := rfl
@[simp] theorem setEncAcc_rx : (s.setEncAcc a).rx = s.rx := rfl
@[simp] theorem setEncAcc_pending : (s.setEncAcc a).pending = s.pending := rfl

end

section
variable (s : State) (r : BitVec 16)

@[simp] theorem setResult_encAcc : (s.setResult r).encAcc = s.encAcc := rfl
@[simp] theorem setResult_decAcc : (s.setResult r).decAcc = s.decAcc := rfl
@[simp] theorem setResult_decH1 : (s.setResult r).decH1 = s.decH1 := rfl
@[simp] theorem setResult_decH0 : (s.setResult r).decH0 = s.decH0 := rfl
@[simp] theorem setResult_decFirst : (s.setResult r).decFirst = s.decFirst := rfl
@[simp] theorem setResult_decCnt : (s.setResult r).decCnt = s.decCnt := rfl
@[simp] theorem setResult_decOvf : (s.setResult r).decOvf = s.decOvf := rfl
@[simp] theorem setResult_expValid : (s.setResult r).expValid = s.expValid := rfl
@[simp] theorem setResult_expMark : (s.setResult r).expMark = s.expMark := rfl
@[simp] theorem setResult_expLen : (s.setResult r).expLen = s.expLen := rfl
@[simp] theorem setResult_statusLow : (s.setResult r).statusLow = s.statusLow := rfl
@[simp] theorem setResult_errCause : (s.setResult r).errCause = s.errCause := rfl
@[simp] theorem setResult_errMore : (s.setResult r).errMore = s.errMore := rfl
@[simp] theorem setResult_result : (s.setResult r).result = r := rfl
@[simp] theorem setResult_maskMode : (s.setResult r).maskMode = s.maskMode := rfl
@[simp] theorem setResult_tx : (s.setResult r).tx = s.tx := rfl
@[simp] theorem setResult_rx : (s.setResult r).rx = s.rx := rfl
@[simp] theorem setResult_pending : (s.setResult r).pending = s.pending := rfl

end

section
variable (s : State) (m : MaskMode)

@[simp] theorem setMaskMode_encAcc : (s.setMaskMode m).encAcc = s.encAcc := rfl
@[simp] theorem setMaskMode_decAcc : (s.setMaskMode m).decAcc = s.decAcc := rfl
@[simp] theorem setMaskMode_decH1 : (s.setMaskMode m).decH1 = s.decH1 := rfl
@[simp] theorem setMaskMode_decH0 : (s.setMaskMode m).decH0 = s.decH0 := rfl
@[simp] theorem setMaskMode_decFirst : (s.setMaskMode m).decFirst = s.decFirst := rfl
@[simp] theorem setMaskMode_decCnt : (s.setMaskMode m).decCnt = s.decCnt := rfl
@[simp] theorem setMaskMode_decOvf : (s.setMaskMode m).decOvf = s.decOvf := rfl
@[simp] theorem setMaskMode_expValid : (s.setMaskMode m).expValid = s.expValid := rfl
@[simp] theorem setMaskMode_expMark : (s.setMaskMode m).expMark = s.expMark := rfl
@[simp] theorem setMaskMode_expLen : (s.setMaskMode m).expLen = s.expLen := rfl
@[simp] theorem setMaskMode_statusLow : (s.setMaskMode m).statusLow = s.statusLow := rfl
@[simp] theorem setMaskMode_errCause : (s.setMaskMode m).errCause = s.errCause := rfl
@[simp] theorem setMaskMode_errMore : (s.setMaskMode m).errMore = s.errMore := rfl
@[simp] theorem setMaskMode_result : (s.setMaskMode m).result = s.result := rfl
@[simp] theorem setMaskMode_maskMode : (s.setMaskMode m).maskMode = m := rfl
@[simp] theorem setMaskMode_tx : (s.setMaskMode m).tx = s.tx := rfl
@[simp] theorem setMaskMode_rx : (s.setMaskMode m).rx = s.rx := rfl
@[simp] theorem setMaskMode_pending : (s.setMaskMode m).pending = s.pending := rfl

end

section
variable (s : State) (v : BitVec 6)

@[simp] theorem setStatusLow_encAcc : (s.setStatusLow v).encAcc = s.encAcc := rfl
@[simp] theorem setStatusLow_decAcc : (s.setStatusLow v).decAcc = s.decAcc := rfl
@[simp] theorem setStatusLow_decH1 : (s.setStatusLow v).decH1 = s.decH1 := rfl
@[simp] theorem setStatusLow_decH0 : (s.setStatusLow v).decH0 = s.decH0 := rfl
@[simp] theorem setStatusLow_decFirst : (s.setStatusLow v).decFirst = s.decFirst := rfl
@[simp] theorem setStatusLow_decCnt : (s.setStatusLow v).decCnt = s.decCnt := rfl
@[simp] theorem setStatusLow_decOvf : (s.setStatusLow v).decOvf = s.decOvf := rfl
@[simp] theorem setStatusLow_expValid : (s.setStatusLow v).expValid = s.expValid := rfl
@[simp] theorem setStatusLow_expMark : (s.setStatusLow v).expMark = s.expMark := rfl
@[simp] theorem setStatusLow_expLen : (s.setStatusLow v).expLen = s.expLen := rfl
@[simp] theorem setStatusLow_statusLow : (s.setStatusLow v).statusLow = v := rfl
@[simp] theorem setStatusLow_errCause : (s.setStatusLow v).errCause = s.errCause := rfl
@[simp] theorem setStatusLow_errMore : (s.setStatusLow v).errMore = s.errMore := rfl
@[simp] theorem setStatusLow_result : (s.setStatusLow v).result = s.result := rfl
@[simp] theorem setStatusLow_maskMode : (s.setStatusLow v).maskMode = s.maskMode := rfl
@[simp] theorem setStatusLow_tx : (s.setStatusLow v).tx = s.tx := rfl
@[simp] theorem setStatusLow_rx : (s.setStatusLow v).rx = s.rx := rfl
@[simp] theorem setStatusLow_pending : (s.setStatusLow v).pending = s.pending := rfl

end

section
variable (s : State) (e : ReplyEntry)

@[simp] theorem startReply_encAcc : (s.startReply e).encAcc = s.encAcc := rfl
@[simp] theorem startReply_decAcc : (s.startReply e).decAcc = 0 := rfl
@[simp] theorem startReply_decH1 : (s.startReply e).decH1 = 0 := rfl
@[simp] theorem startReply_decH0 : (s.startReply e).decH0 = 0 := rfl
@[simp] theorem startReply_decFirst : (s.startReply e).decFirst = 0 := rfl
@[simp] theorem startReply_decCnt : (s.startReply e).decCnt = 0 := rfl
@[simp] theorem startReply_decOvf : (s.startReply e).decOvf = false := rfl
@[simp] theorem startReply_expValid : (s.startReply e).expValid = e.valid := rfl
@[simp] theorem startReply_expMark : (s.startReply e).expMark = e.marker := rfl
@[simp] theorem startReply_expLen : (s.startReply e).expLen = e.length := rfl
@[simp] theorem startReply_statusLow : (s.startReply e).statusLow = 0 := rfl
@[simp] theorem startReply_errCause : (s.startReply e).errCause = s.errCause := rfl
@[simp] theorem startReply_errMore : (s.startReply e).errMore = s.errMore := rfl
@[simp] theorem startReply_result : (s.startReply e).result = s.result := rfl
@[simp] theorem startReply_maskMode : (s.startReply e).maskMode = s.maskMode := rfl
@[simp] theorem startReply_tx : (s.startReply e).tx = s.tx := rfl
@[simp] theorem startReply_rx : (s.startReply e).rx = s.rx := rfl
@[simp] theorem startReply_pending : (s.startReply e).pending = s.pending := rfl

end

section
variable (s : State) (c : Char7)

@[simp] theorem shiftHistory_encAcc : (s.shiftHistory c).encAcc = s.encAcc := rfl
@[simp] theorem shiftHistory_decAcc : (s.shiftHistory c).decAcc = if 2 ≤ s.decCnt then s.decAcc ^^^ s.decH1 else s.decAcc := rfl
@[simp] theorem shiftHistory_decH1 : (s.shiftHistory c).decH1 = s.decH0 := rfl
@[simp] theorem shiftHistory_decH0 : (s.shiftHistory c).decH0 = c := rfl
@[simp] theorem shiftHistory_decFirst : (s.shiftHistory c).decFirst = if s.decCnt = 0 then c else s.decFirst := rfl
@[simp] theorem shiftHistory_decCnt : (s.shiftHistory c).decCnt = if s.decCnt = 255 then s.decCnt else s.decCnt + 1 := rfl
@[simp] theorem shiftHistory_decOvf : (s.shiftHistory c).decOvf = if s.decCnt = 255 then true else s.decOvf := rfl
@[simp] theorem shiftHistory_expValid : (s.shiftHistory c).expValid = s.expValid := rfl
@[simp] theorem shiftHistory_expMark : (s.shiftHistory c).expMark = s.expMark := rfl
@[simp] theorem shiftHistory_expLen : (s.shiftHistory c).expLen = s.expLen := rfl
@[simp] theorem shiftHistory_statusLow : (s.shiftHistory c).statusLow = 0 := rfl
@[simp] theorem shiftHistory_errCause : (s.shiftHistory c).errCause = s.errCause := rfl
@[simp] theorem shiftHistory_errMore : (s.shiftHistory c).errMore = s.errMore := rfl
@[simp] theorem shiftHistory_result : (s.shiftHistory c).result = s.result := rfl
@[simp] theorem shiftHistory_maskMode : (s.shiftHistory c).maskMode = s.maskMode := rfl
@[simp] theorem shiftHistory_tx : (s.shiftHistory c).tx = s.tx := rfl
@[simp] theorem shiftHistory_rx : (s.shiftHistory c).rx = s.rx := rfl
@[simp] theorem shiftHistory_pending : (s.shiftHistory c).pending = s.pending := rfl

end

section
variable (s : State)

@[simp] theorem resetRegisters_encAcc : s.resetRegisters.encAcc = 0 := rfl
@[simp] theorem resetRegisters_decAcc : s.resetRegisters.decAcc = 0 := rfl
@[simp] theorem resetRegisters_decH1 : s.resetRegisters.decH1 = 0 := rfl
@[simp] theorem resetRegisters_decH0 : s.resetRegisters.decH0 = 0 := rfl
@[simp] theorem resetRegisters_decFirst : s.resetRegisters.decFirst = 0 := rfl
@[simp] theorem resetRegisters_decCnt : s.resetRegisters.decCnt = 0 := rfl
@[simp] theorem resetRegisters_decOvf : s.resetRegisters.decOvf = false := rfl
@[simp] theorem resetRegisters_expValid : s.resetRegisters.expValid = false := rfl
@[simp] theorem resetRegisters_expMark : s.resetRegisters.expMark = 0 := rfl
@[simp] theorem resetRegisters_expLen : s.resetRegisters.expLen = 0 := rfl
@[simp] theorem resetRegisters_statusLow : s.resetRegisters.statusLow = 0 := rfl
@[simp] theorem resetRegisters_errCause : s.resetRegisters.errCause = 0 := rfl
@[simp] theorem resetRegisters_errMore : s.resetRegisters.errMore = false := rfl
@[simp] theorem resetRegisters_result : s.resetRegisters.result = 0 := rfl
@[simp] theorem resetRegisters_maskMode : s.resetRegisters.maskMode = .mask := rfl
@[simp] theorem resetRegisters_tx : s.resetRegisters.tx = s.tx := rfl
@[simp] theorem resetRegisters_rx : s.resetRegisters.rx = s.rx := rfl
@[simp] theorem resetRegisters_pending : s.resetRegisters.pending = s.pending := rfl

end

/-- The verdict is a function of the decoder and expected-reply registers (R144). -/
theorem verdict_congr {s t : State} (hAcc : t.decAcc = s.decAcc) (hH1 : t.decH1 = s.decH1) (hH0 : t.decH0 = s.decH0)
    (hFirst : t.decFirst = s.decFirst) (hCnt : t.decCnt = s.decCnt) (hOvf : t.decOvf = s.decOvf)
    (hValid : t.expValid = s.expValid) (hMark : t.expMark = s.expMark) (hLen : t.expLen = s.expLen) :
    t.verdict = s.verdict := by
  simp only [verdict, markWrong, replyOk, isMalformed, lenWrong, csumWrong, isShort, *]

@[simp] theorem raise_verdict (s : State) (c : CmdError) : (s.raise c).verdict = s.verdict :=
  verdict_congr (by simp) (by simp) (by simp) (by simp) (by simp) (by simp) (by simp) (by simp) (by simp)

@[simp] theorem clearErrors_verdict (s : State) : s.clearErrors.verdict = s.verdict :=
  verdict_congr (by simp) (by simp) (by simp) (by simp) (by simp) (by simp) (by simp) (by simp) (by simp)

@[simp] theorem emitTx_verdict (s : State) (b : Byte) : (s.emitTx b).verdict = s.verdict :=
  verdict_congr (by simp) (by simp) (by simp) (by simp) (by simp) (by simp) (by simp) (by simp) (by simp)

@[simp] theorem emitRx_verdict (s : State) (c : Char7) : (s.emitRx c).verdict = s.verdict :=
  verdict_congr (by simp) (by simp) (by simp) (by simp) (by simp) (by simp) (by simp) (by simp) (by simp)

@[simp] theorem setEncAcc_verdict (s : State) (a : Char7) : (s.setEncAcc a).verdict = s.verdict :=
  verdict_congr (by simp) (by simp) (by simp) (by simp) (by simp) (by simp) (by simp) (by simp) (by simp)

@[simp] theorem setResult_verdict (s : State) (r : BitVec 16) : (s.setResult r).verdict = s.verdict :=
  verdict_congr (by simp) (by simp) (by simp) (by simp) (by simp) (by simp) (by simp) (by simp) (by simp)

@[simp] theorem setMaskMode_verdict (s : State) (m : MaskMode) : (s.setMaskMode m).verdict = s.verdict :=
  verdict_congr (by simp) (by simp) (by simp) (by simp) (by simp) (by simp) (by simp) (by simp) (by simp)

@[simp] theorem setStatusLow_verdict (s : State) (v : BitVec 6) : (s.setStatusLow v).verdict = s.verdict :=
  verdict_congr (by simp) (by simp) (by simp) (by simp) (by simp) (by simp) (by simp) (by simp) (by simp)

end Sys2Proof.Machine.State
end

