-- ==== Sys2Proof/Laws/Exec.lean ====
section
/-!
SUPPORT. What one command can do, said once: a command ends in the error its data rule raises, or in its effect; and how
runs of commands compose.
-/

namespace Sys2Proof.Machine

/-- The effect of a command that is accepted. -/
def effect : Instr → State → State
  | .nop _, s => s
  | .encInit _, s => s.setEncAcc 0
  | .encPush d, s => s.encodeChar Config.paritySense (unpack d)
  | .encFinish _, s => s.finishMessage Config.paritySense
  | .decInit d, s => s.startReply (replyTable d)
  | .decPush d, s => s.acceptChar (unpack d)
  | .decCheck _, s => s.setStatusLow s.verdict
  | .pack d, s => s.setResult ((pack Config.paritySense (unpack d)).setWidth 16)
  | .lookup d, s => s.setResult ((replyTable d).marker.setWidth 8 ++ (replyTable d).length)
  | .cfg d, s => s.setMaskMode (cfgMode d)
  | .clrerr _, s => s.clearErrors
  | .reservedB _, s => s
  | .reservedC _, s => s
  | .reservedD _, s => s
  | .reservedE _, s => s
  | .sreset _, s => s.resetRegisters

@[simp] theorem complete_some (c : CmdError) (s t : State) : complete (some c) s t = .next (s.raise c) := rfl

@[simp] theorem complete_none (s t : State) : complete none s t = .next t := rfl

/-- What `complete` can answer: always a next state, the recorded error or the effect. -/
theorem complete_eq_next {e : Option CmdError} {s d t : State} (h : complete e s d = .next t) :
    (∃ c, e = some c ∧ t = s.raise c) ∨ (e = none ∧ t = d) := by
  cases e with
  | none => cases h; exact .inr ⟨rfl, rfl⟩
  | some c => cases h; exact .inl ⟨c, rfl, rfl⟩

/-- DEC_INIT selects the entry of the table, raw mode being the entry of 0x00, which is in no row. -/
theorem decInitSelect_ok {d : Byte} {e : ReplyEntry} (h : decInitSelect d = .ok e) : e = replyTable d := by
  unfold decInitSelect at h
  split at h
  · next h0 => subst h0; cases h; rfl
  · split at h <;> cases h
    rfl

/-- What one command can do. -/
theorem exec_eq_complete (i : Instr) (s : State) :
    exec i s = complete (commandError s.maskMode i) s (effect i s) := by
  cases i with
  | decInit d =>
    simp only [exec, execDecInit, commandError]
    cases h : decInitSelect d with
    | error c => rfl
    | ok e => simp [effect, decInitSelect_ok h]
  | _ => rfl

/-- A next state is the recorded error of a command that is not accepted, or the effect of one that is. -/
theorem exec_cases {i : Instr} {s t : State} (h : exec i s = .next t) :
    (∃ c, commandError s.maskMode i = some c ∧ t = s.raise c) ∨ (commandError s.maskMode i = none ∧ t = effect i s) :=
  complete_eq_next (exec_eq_complete i s ▸ h)

theorem exec_accepted {i : Instr} {s : State} (h : commandError s.maskMode i = none) : exec i s = .next (effect i s) := by
  rw [exec_eq_complete, h, complete_none]

theorem exec_failing {i : Instr} {s : State} {c : CmdError} (h : commandError s.maskMode i = some c) :
    exec i s = .next (s.raise c) := by
  rw [exec_eq_complete, h, complete_some]

/-- `raise` as one update of the state. -/
theorem raise_eq_errorRecorded (s : State) (c : CmdError) : s.raise c = s.errorRecorded c.code := by
  unfold State.raise State.errorRecorded
  split
  · next h => simp [h]
  · next h => simp only [decide_eq_true h, Bool.or_true]

/-- An accepted command keeps the error record, but for CLRERR and SRESET. -/
theorem effect_keeps_errors {i : Instr} {s : State} (h : commandError s.maskMode i = none) (hi : endsErrorRecord i = false) :
    (effect i s).errCause = s.errCause ∧ (effect i s).errMore = s.errMore := by
  cases i <;> first
    | exact ⟨rfl, rfl⟩
    | (simp only [endsErrorRecord, decide_eq_false_iff_not] at hi
       exact absurd (show zeroDataError _ = none from h) (by simp [zeroDataError]; exact hi))

/-- No command touches the host's inputs. -/
theorem exec_pending {i : Instr} {s t : State} (h : exec i s = .next t) : t.pending = s.pending := by
  obtain ⟨c, -, rfl⟩ | ⟨-, rfl⟩ := exec_cases h
  · simp
  · cases i <;> simp [effect, State.encodeChar, State.finishMessage, State.acceptChar]

@[simp] theorem runCommands_nil (s : State) : runCommands [] s = .next s := rfl

/-- A run goes on from the state its first command leaves. -/
theorem runCommands_cons {i : Instr} {s t : State} (is : List Instr) (h : exec i s = .next t) :
    runCommands (i :: is) s = runCommands is t := by
  simp [runCommands, h]

/-- A run of two lists is the second from where the first ends. -/
theorem runCommands_append {as : List Instr} {s t : State} (bs : List Instr) (h : runCommands as s = .next t) :
    runCommands (as ++ bs) s = runCommands bs t := by
  induction as generalizing s with
  | nil => cases h; rfl
  | cons a as ih =>
    simp only [runCommands, List.cons_append] at h ⊢
    split at h <;> first | exact ih h | cases h

end Sys2Proof.Machine
end

