-- ==== Sys2Proof/Laws/PerInstr.lean ====
section
/-!
SUPPORT. The family FieldsOfWord: the word of a command holds its operation code of R73 in bits [11:8] and its data field in
bits [7:0] (R70), one lemma per command.
-/

namespace Sys2Proof.Laws.FieldsOfWord

/-- The two fields of the command's word. -/
def Statement (i : Instr) : Prop := (encode i).extractLsb' 8 4 = opcode i ∧ dataField (encode i) = i.data

theorem fields_append (op : BitVec 4) (d : Byte) :
    (op ++ d : CmdWord).extractLsb' 8 4 = op ∧ dataField (op ++ d : CmdWord) = d :=
  ⟨BitVec.extractLsb'_append_eq_left, BitVec.extractLsb'_append_eq_right⟩

theorem nop (d : Byte) : Statement (.nop d) := fields_append _ d

theorem encInit (d : Byte) : Statement (.encInit d) := fields_append _ d

theorem encPush (d : Byte) : Statement (.encPush d) := fields_append _ d

theorem encFinish (d : Byte) : Statement (.encFinish d) := fields_append _ d

theorem decInit (d : Byte) : Statement (.decInit d) := fields_append _ d

theorem decPush (d : Byte) : Statement (.decPush d) := fields_append _ d

theorem decCheck (d : Byte) : Statement (.decCheck d) := fields_append _ d

theorem pack (d : Byte) : Statement (.pack d) := fields_append _ d

theorem lookup (d : Byte) : Statement (.lookup d) := fields_append _ d

theorem cfg (d : Byte) : Statement (.cfg d) := fields_append _ d

theorem clrerr (d : Byte) : Statement (.clrerr d) := fields_append _ d

theorem reservedB (d : Byte) : Statement (.reservedB d) := fields_append _ d

theorem reservedC (d : Byte) : Statement (.reservedC d) := fields_append _ d

theorem reservedD (d : Byte) : Statement (.reservedD d) := fields_append _ d

theorem reservedE (d : Byte) : Statement (.reservedE d) := fields_append _ d

theorem sreset (d : Byte) : Statement (.sreset d) := fields_append _ d

end Sys2Proof.Laws.FieldsOfWord
end

