-- ==== Sys2Proof/Laws/Step.lean ====
section
/-!
SUPPORT. What one step can do, said once, and how steps of the machine compose.
-/

namespace Sys2Proof.Machine

/-- What one step can do: nothing, with nothing offered; the command of the host's word; or a reset. -/
theorem step_cases {s t : State} (h : step s = .next t) :
    (s.pending = [] ∧ t = s)
      ∨ (∃ w later, s.pending = .command w :: later ∧ exec (decode w) { s with pending := later } = .next t)
      ∨ ∃ later, s.pending = .reset :: later ∧ t = State.resetRegisters { s with pending := later } := by
  unfold step at h
  split at h
  · next hp => cases h; exact .inl ⟨hp, rfl⟩
  · next w later hp => exact .inr (.inl ⟨w, later, hp, h⟩)
  · next later hp => cases h; exact .inr (.inr ⟨later, hp, rfl⟩)

theorem core_run_zero (s : State) : Host.Core.run core 0 s = .next s := rfl

theorem core_run_succ (k : Nat) {s t : State} (h : step s = .next t) :
    Host.Core.run core (k + 1) s = Host.Core.run core k t := by
  have : core.step s = .next t := h
  simp [Host.Core.run, this]

end Sys2Proof.Machine
end

