-- ==== Sys2Proof/Tests/Slice0.lean ====
section
/-!
SUPPORT. The model's own tests, on values of the spec (spec/95_test_vectors.md and the rules' examples, named at each test),
then one witness for each statement with hypotheses: a concrete state and operands that meet them together.
-/

namespace Sys2Proof.Tests

open Sys2Proof.Machine

/-- The state after one command, for the tests: the machine always answers a next state. -/
def after (i : Instr) (s : State) : State :=
  match exec i s with
  | .next t => t
  | .fault _ => s
  | .refused _ => s

/-- The state after one step. -/
def afterStep (s : State) : State :=
  match step s with
  | .next t => t
  | .fault _ => s
  | .refused _ => s

/-- `REJECT` mode, all else at reset. -/
def rejecting : State := { State.reset with maskMode := .reject }

/-- A decoder history with its expected-reply registers, all else at reset. -/
def reply (acc h1 h0 first : Char7) (cnt : BitVec 8) (expected : ReplyEntry) : State :=
  { State.reset with
    decAcc := acc, decH1 := h1, decH0 := h0, decFirst := first, decCnt := cnt,
    expValid := expected.valid, expMark := expected.marker, expLen := expected.length }

/-! ### Decoding: words written out from R73, R76, R90 and the encoding column of the opcode table -/

theorem test_decode_encoder_family :
    decode 0b000100000000 = .encInit 0x00 ∧ decode 0b001001010110 = .encPush 0x56
      ∧ decode 0b001100000000 = .encFinish 0x00 ∧ decode 0b011100110101 = .pack 0x35 := by decide

theorem test_decode_decoder_family :
    decode 0b010001010011 = .decInit 0x53 ∧ decode 0b010111101100 = .decPush 0xEC
      ∧ decode 0b011000000000 = .decCheck 0x00 ∧ decode 0b100001010011 = .lookup 0x53 := by decide

theorem test_decode_control_family :
    decode 0b000000000000 = .nop 0x00 ∧ decode 0b100100000001 = .cfg 0x01 ∧ decode 0b101000000000 = .clrerr 0x00
      ∧ decode 0b111100000000 = .sreset 0x00 := by decide

theorem test_decode_reserved :
    decode 0b101100000000 = .reservedB 0x00 ∧ decode 0b110000010010 = .reservedC 0x12
      ∧ decode 0b110111111111 = .reservedD 0xFF ∧ decode 0b111000000001 = .reservedE 0x01 := by decide

/-- A data field that breaks its rule stays in the command (R74: E7, K1, K2, K9 of the vectors). -/
theorem test_decode_keeps_data :
    decode 0x301 = .encFinish 0x01 ∧ decode 0x001 = .nop 0x01 ∧ decode 0x902 = .cfg 0x02 ∧ decode 0xA01 = .clrerr 0x01 := by
  decide

theorem test_decodeTableWord :
    decodeTableWord 16 0x256 = some (.encPush 0x56) ∧ decodeTableWord 12 0xF00 = some (.sreset 0x00)
      ∧ decodeTableWord 16 0x1256 = none := by decide

/-! ### Well-formedness: an ill-formed term for each check -/

theorem test_illFormed_zeroData :
    [Instr.nop 1, .encInit 1, .encFinish 1, .decCheck 1, .clrerr 1, .sreset 1].map illFormed
      = List.replicate 6 (some .reservedField) := by decide

theorem test_illFormed_decInit : illFormed (.decInit 0x76) = some .unknownCmd := by decide

theorem test_illFormed_cfg : illFormed (.cfg 0x02) = some .reservedField := by decide

theorem test_illFormed_reserved :
    [Instr.reservedB 0, .reservedC 0, .reservedD 0, .reservedE 0].map illFormed = List.replicate 4 (some .reservedOp) := by
  decide

theorem test_wellFormed : WellFormed (.encPush 0xFF) ∧ WellFormed (.decInit 0x52) ∧ WellFormed (.cfg 0x01) := by decide

/-! ### Codec functions: vectors F1 to F19 -/

theorem test_parity_and_packing :
    xor7 0x00 = false ∧ xor7 0x7F = true ∧ pack .odd 0x00 = 0x80 ∧ pack .odd 0x7F = 0x7F ∧ pack .odd 0x56 = 0xD6
      ∧ pack .odd 0x58 = 0x58 ∧ unpack 0xD6 = 0x56 ∧ unpack 0x56 = 0x56 ∧ unpack 0xFF = 0x7F
      ∧ pack .evenLiteral 0x56 = 0x56 := by decide

theorem test_digits_and_checksum :
    hexd 0 = 0x30 ∧ hexd 9 = 0x39 ∧ hexd 10 = 0x41 ∧ hexd 15 = 0x46 ∧ hex2 0x6C = (0x36, 0x43) ∧ hex2 0x7F = (0x37, 0x46)
      ∧ hex2 0x00 = (0x30, 0x30) ∧ csum [] = 0x00 ∧ csum [0x56, 0x53] = 0x05 ∧ csum [0x61, 0x61] = 0x00
      ∧ csum [0xD6] = 0x56 := by decide

/-- The frames of E2, E3 and E6, and the replies of D1 and D8. -/
theorem test_frames :
    encodeFrame .odd [0x56, 0x53] = [0xD6, 0xD3, 0xB0, 0xB5]
      ∧ encodeFrame .odd [0x4C, 0x35, 0x30] = [0x4C, 0xB5, 0xB0, 0x34, 0xB9]
      ∧ encodeFrame .odd [0x48, 0x65, 0x6C, 0x6C, 0x6F] = [0xC8, 0xE5, 0xEC, 0xEC, 0xEF, 0x34, 0x32]
      ∧ decodeFrame [0xEC, 0xB6, 0x43] = .ok [0x6C, 0x36, 0x43] ∧ decodeFrame [0xEC, 0xB6, 0xE3] = .checksumError := by
  decide

/-! ### The commands, one step each -/

/-- R121 example. -/
theorem test_encInit :
    (after (.encInit 0x00) { State.reset with encAcc := 0x56, tx := [0xD6] }).encAcc = 0x00
      ∧ (after (.encInit 0x00) { State.reset with encAcc := 0x56, tx := [0xD6] }).tx = [0xD6] := by decide

/-- R122 example; E4 (bit 7 set under MASK). -/
theorem test_encPush :
    (after (.encPush 0x56) State.reset).encAcc = 0x56 ∧ (after (.encPush 0x56) State.reset).tx = [0xD6]
      ∧ after (.encPush 0xD6) State.reset = after (.encPush 0x56) State.reset := by decide

/-- E9 and P4: a refused push. -/
theorem test_encPush_rejected : after (.encPush 0xD6) rejecting = { rejecting with errCause := 2 } := by decide

/-- R123 example. -/
theorem test_encFinish :
    (after (.encFinish 0x00) { State.reset with encAcc := 0x56 }).tx = [0xB5, 0xB6]
      ∧ (after (.encFinish 0x00) { State.reset with encAcc := 0x56 }).encAcc = 0x00 := by decide

/-- E7: a refused ENC_FINISH. -/
theorem test_encFinish_refused :
    (after (.encFinish 0x01) { State.reset with encAcc := 0x56 }).encAcc = 0x56
      ∧ (after (.encFinish 0x01) { State.reset with encAcc := 0x56 }).status = 0x80 := by decide

/-- R124 example, K5, and the two corner cases. -/
theorem test_pack :
    (after (.pack 0x35) State.reset).result = 0x00B5 ∧ (after (.pack 0xD6) State.reset).result = 0x00D6
      ∧ (after (.pack 0x80) State.reset).result = 0x0080 ∧ (after (.pack 0xFF) State.reset).result = 0x007F := by decide

/-- K4: PACK refused under REJECT. -/
theorem test_pack_rejected : after (.pack 0xD6) rejecting = { rejecting with errCause := 2 } := by decide

/-- R141 example, over an old history and verdict. -/
theorem test_decInit :
    after (.decInit 0x4C) { reply 0x78 0x37 0x39 0x78 3 noEntry with statusLow := 0x09 }
      = reply 0 0 0 0 0 ⟨true, 0x6C, 3⟩ := by decide

/-- D18, D19: a lowercase letter is unknown, and the history stays. -/
theorem test_decInit_unknown :
    after (.decInit 0x76) (reply 0 0 0x6C 0x6C 1 ⟨true, 0x6C, 3⟩)
      = { reply 0 0 0x6C 0x6C 1 ⟨true, 0x6C, 3⟩ with errCause := 3 } := by decide

/-- R143 example; and the third character of D1 moves the first into the accumulator. -/
theorem test_decPush :
    after (.decPush 0xEC) (reply 0 0 0 0 0 ⟨true, 0x6C, 3⟩)
        = { reply 0 0 0x6C 0x6C 1 ⟨true, 0x6C, 3⟩ with rx := [0x6C] }
      ∧ after (.decPush 0x43) (reply 0 0x6C 0x36 0x6C 2 noEntry)
        = { reply 0x6C 0x36 0x43 0x6C 3 noEntry with rx := [0x43] } := by decide

/-- R143 corner case, D14: the 256th character. -/
theorem test_decPush_overflow :
    (after (.decPush 0xB0) (reply 0x61 0x61 0xB0 0x61 255 noEntry)).decCnt = 255
      ∧ (after (.decPush 0xB0) (reply 0x61 0x61 0xB0 0x61 255 noEntry)).decOvf = true
      ∧ (after (.decPush 0xB0) (reply 0x61 0x61 0xB0 0x61 255 noEntry)).decAcc = 0x00 := by decide

/-- D1, D3, D4, D5, D5b, D6, D7, D8 and D13: the verdicts. -/
theorem test_decCheck_vectors :
    [reply 0x6C 0x36 0x43 0x6C 3 noEntry, reply 0x78 0x37 0x39 0x78 3 ⟨true, 0x78, 3⟩,
      reply 0 0x6C 0x36 0x6C 2 ⟨true, 0x6C, 3⟩, reply 0 0 0 0 0 noEntry, reply 0 0 0 0 0 ⟨true, 0x6C, 3⟩,
      reply 0x6C 0x36 0x43 0x6C 3 ⟨true, 0x76, 7⟩, reply 0x78 0x37 0x38 0x78 3 ⟨true, 0x6C, 3⟩,
      reply 0x6C 0x36 0x63 0x6C 3 noEntry, reply 0x75 0x33 0x34 0x76 5 ⟨true, 0x76, 7⟩].map
        (fun s => (after (.decCheck 0x00) s).status)
      = [0x03, 0x09, 0x15, 0x05, 0x15, 0x11, 0x21, 0x09, 0x19] := by decide

/-- D10, D14, D15: the longest table reply, and the counter at and over its limit. -/
theorem test_decCheck_long_replies :
    [reply 0x73 0x37 0x33 0x73 67 ⟨true, 0x73, 67⟩, { reply 0x00 0x30 0x30 0x61 255 noEntry with decOvf := true },
      reply 0x61 0x36 0x31 0x61 255 noEntry].map (fun s => (after (.decCheck 0x00) s).status) = [0x03, 0x03, 0x03] := by
  decide

/-- R147: the six rows. -/
theorem test_lookup_rows :
    [0x56, 0x53, 0x4C, 0x58, 0x57, 0x52].map (fun d => (after (.lookup d) State.reset).result)
      = [0x7607, 0x7343, 0x6C03, 0x7803, 0x7707, 0x7207] := by decide

/-- D20, K6: values that are not in the table. -/
theorem test_lookup_unknown :
    [0x00, 0x76, 0xD6, 0xFF].map (fun d => (after (.lookup d) { State.reset with result := 0x7343 }).result)
      = [0, 0, 0, 0] := by decide

/-- R170 example and K1. -/
theorem test_nop :
    after (.nop 0x00) rejecting = rejecting ∧ after (.nop 0x01) State.reset = { State.reset with errCause := 4 } := by decide

/-- R172: the two legal words; K2. -/
theorem test_cfg :
    after (.cfg 0x01) State.reset = rejecting ∧ after (.cfg 0x00) rejecting = State.reset
      ∧ after (.cfg 0x02) rejecting = { rejecting with errCause := 4 } := by decide

/-- R173 example and K8; and CLRERR with data over a recorded error. -/
theorem test_clrerr :
    after (.clrerr 0x00) { State.reset with errCause := 1, errMore := true } = State.reset
      ∧ after (.clrerr 0x01) { State.reset with errCause := 1 } = { State.reset with errCause := 1, errMore := true } := by
  decide

/-- K7: SRESET keeps `TX`. -/
theorem test_sreset :
    after (.sreset 0x00) { rejecting with encAcc := 0x56, tx := [0xD6], errCause := 2 } = { State.reset with tx := [0xD6] } := by
  decide

/-- K3: a reserved operation, and a second error over the first. -/
theorem test_reserved :
    after (.reservedC 0x12) State.reset = { State.reset with errCause := 1 }
      ∧ after (.reservedB 0x00) { State.reset with errCause := 2 } = { State.reset with errCause := 2, errMore := true }
      ∧ (after (.reservedD 0x00) State.reset).errCause = 1 ∧ (after (.reservedE 0xFF) State.reset).errCause = 1 := by decide

/-! ### The step, and the host's view -/

theorem test_step_takes_the_first_word :
    afterStep { State.reset with pending := [.command 0x256, .command 0x300] }
      = { State.reset with encAcc := 0x56, tx := [0xD6], pending := [.command 0x300] } := by decide

theorem test_step_reset_input :
    afterStep { rejecting with encAcc := 0x56, tx := [0xD6], rx := [0x6C], pending := [.reset, .command 0x000] }
      = { State.reset with tx := [0xD6], rx := [0x6C], pending := [.command 0x000] } := by decide

theorem test_fetch_word : afterStep (State.reset.withFetchWord 16 0x735) = { State.reset with result := 0x00B5 } := by decide

/-- R24, R85, R146: P2's reply. -/
theorem test_host_view :
    onBytePort 0x7F = 0x7F ∧ replyBody [0x76, 0x31, 0x32, 0x33, 0x34, 0x37, 0x32] = [0x31, 0x32, 0x33, 0x34]
      ∧ (reply 0x6C 0x36 0x43 0x6C 3 noEntry).replyOutcome = .noVerdict
      ∧ (after (.decCheck 0) (reply 0x78 0x37 0x38 0x78 3 ⟨true, 0x6C, 3⟩)).replyOutcome = .unexpectedReply := by decide

theorem test_report :
    reportOf State.reset (after (.encFinish 0x00) State.reset) = ⟨⟨0x00, 0, false, 0x0000⟩, [0xB0, 0xB0], []⟩ := by decide

/-! ### The assembler: R90's examples and R91's expansions -/

/-- The commands of a line, none where it is refused. -/
def lineCommands (line : String) : Option (List Instr) :=
  match assembleLine line.toList with
  | .ok is => some is
  | .error _ => none

theorem test_assemble_commands :
    lineCommands "ENC_PUSH 'V'" = some [.encPush 0x56] ∧ lineCommands "DEC_INIT 'S'" = some [.decInit 0x53]
      ∧ lineCommands "CFG REJECT ; loud" = some [.cfg 0x01] ∧ lineCommands "DEC_INIT RAW" = some [.decInit 0x00]
      ∧ lineCommands "  ENC_PUSH ';'" = some [.encPush 0x3B] ∧ lineCommands "PACK 53" = some [.pack 0x35]
      ∧ lineCommands "; nothing" = some [] := by decide

theorem test_assemble_pseudo :
    lineCommands "ENCODE \"V;\"" = some [.encInit 0x00, .encPush 0x56, .encPush 0x3B, .encFinish 0x00]
      ∧ lineCommands "VERIFY 'L', 0xEC, 0xB6, 0x43"
        = some [.decInit 0x4C, .decPush 0xEC, .decPush 0xB6, .decPush 0x43, .decCheck 0x00]
      ∧ lineCommands "VERIFY RAW" = some [.decInit 0x00, .decCheck 0x00] ∧ lineCommands "CLR" = some [.clrerr 0x00] := by
  decide

theorem test_assemble_refuses :
    [lineCommands "NOP 0", lineCommands "ENC_PUSH", lineCommands "ENC_PUSH 256", lineCommands "nop", lineCommands "CFG RAW"]
      = [none, none, none, none, none] := by decide

/-! ### Witnesses: hypotheses that hold together, with the conclusion at that instance where it is a computation -/

theorem witness_FlippingOneDataBit : (6 : Nat) < 7 ∧ xor7 (0x56 ^^^ (1#7 <<< 6)) = !xor7 0x56 := by decide

theorem witness_PackCarriesParity : (6 : Nat) < 7 ∧ (pack .odd 0x56).getLsbD 6 = (0x56 : Char7).getLsbD 6 := by decide

theorem witness_HexDigits : hexd 0xF = hexd 0xF ∧ (0x41 : Char7) ≤ hexd 0xF ∧ hexd 0xF ≤ 0x46 := by decide

theorem witness_ChecksumIgnoresOrder :
    ([0x56, 0x53] : List Byte).Perm [0x53, 0x56] ∧ csum [0x56, 0x53] = csum [0x53, 0x56] := by decide

theorem witness_FrameRoundTrip :
    ([0x56] : List Byte) ≠ [] ∧ decodeFrame (encodeFrame .odd [0x56]) = .ok [0x56, 0x35, 0x36] := by decide

theorem witness_SingleError :
    (0x01 : Char7) ≠ 0 ∧ unpack 0x57 = unpack 0x56 ^^^ 0x01
      ∧ decodeFrame ((encodeFrame .odd [0x56]).set 0 0x57) = .checksumError := by decide

theorem witness_ErrorPair :
    unpack 0x57 = unpack 0x56 ^^^ 0x01 ∧ unpack 0x52 = unpack 0x53 ^^^ 0x01
      ∧ decodeFrame (((encodeFrame .odd [0x56, 0x53]).set 0 0x57).set 1 0x52) = .ok [0x57, 0x52, 0x30, 0x35] := by decide

theorem witness_ReservedWords :
    (0xB00 : CmdWord) ≤ 0xB00 ∧ (0xB00 : CmdWord) ≤ 0xEFF ∧ (0xB00 : CmdWord) ≤ 0xEFF ∧ (0xEFF : CmdWord) ≤ 0xEFF
      ∧ commandError .mask (decode 0xB00) = some .reservedOp ∧ commandError .reject (decode 0xEFF) = some .reservedOp := by
  decide

theorem witness_StepRuns :
    (State.reset.withFetchWord 12 0x256).pending = .command 0x256 :: []
      ∧ (State.reset.withFetchWord 12 0x256).pending = .command (encode (.encPush 0x56)) :: [] := by decide

theorem witness_ResetInput :
    ({ rejecting with pending := [.reset] } : State).pending = .reset :: [] ∧ State.reset.pending = [] := by decide

theorem witness_PlacedWord :
    12 ≤ 12 ∧ 4095 < 4096 ∧ decodeTableWord 12 4095 = some (decode (BitVec.ofNat 12 4095)) := by decide

theorem witness_IssuedCommands :
    ({ State.reset with pending := [.command 0x100, .command 0x256, .reset] } : State).pending
      = [0x100, 0x256].map Input.command ++ [.reset] := by decide

theorem witness_FailingPush :
    (0x80 : Byte)[7] = true ∧ rejecting.maskMode = .reject
      ∧ after (.encPush 0x80) rejecting = rejecting.errorRecorded 2 := by decide

theorem witness_FailingDecInit :
    (0xFF : Byte) ∉ [0x00, 0x56, 0x53, 0x4C, 0x58, 0x57, 0x52]
      ∧ after (.decInit 0xFF) rejecting = rejecting.errorRecorded 3 := by decide

theorem witness_FailingZeroData :
    (0xFF : Byte) ≠ 0x00 ∧ after (.sreset 0xFF) rejecting = rejecting.errorRecorded 4 := by decide

theorem witness_FailingCfg :
    (0x02 : Byte).extractLsb' 1 7 ≠ 0 ∧ (0xFF : Byte).extractLsb' 1 7 ≠ 0
      ∧ after (.cfg 0x02) rejecting = rejecting.errorRecorded 4 := by decide

theorem witness_RecordedCode : exec (.nop 0x01) State.reset = .next (after (.nop 0x01) State.reset)
    ∧ (after (.nop 0x01) State.reset).errCause.toNat ≤ 4 := ⟨rfl, by decide⟩

theorem witness_ReservedOperations :
    Instr.reservedE 0xFF ∈ [Instr.reservedB 0xFF, .reservedC 0xFF, .reservedD 0xFF, .reservedE 0xFF] := by decide

theorem witness_FirstError :
    (∀ i ∈ [Instr.reservedB 0, .clrerr 1, .sreset 1], endsErrorRecord i = false)
      ∧ State.reset.errCause = 0 ∧ State.reset.errMore = false
      ∧ runCommands [.reservedB 0, .clrerr 1, .sreset 1] State.reset
        = .next { State.reset with errCause := 1, errMore := true }
      ∧ Instr.clrerr 0x00 ∈ [Instr.clrerr 0x00, .sreset 0x00] := ⟨by decide, rfl, rfl, rfl, by decide⟩

theorem witness_EncInit : (0x01 : Byte) ≠ 0x00 ∧ after (.encInit 0x01) State.reset = State.reset.errorRecorded 4 := by decide

theorem witness_EncPush :
    ((0x7F : Byte)[7] = false ∨ rejecting.maskMode = .mask) ∧ State.reset.maskMode = .mask
      ∧ (0xFF : Byte)[7] = true ∧ rejecting.maskMode = .reject
      ∧ (after (.encPush 0x7F) rejecting).tx = [0x7F] ∧ after (.encPush 0xFF) rejecting = rejecting.errorRecorded 2 := by decide

theorem witness_EncFinish :
    State.reset.encAcc = 0x00 ∧ (after (.encFinish 0x00) State.reset).tx = [0xB0, 0xB0] ∧ (0x01 : Byte) ≠ 0x00
      ∧ after (.encFinish 0x01) State.reset = State.reset.errorRecorded 4 := by decide

theorem witness_Pack :
    ((0x35 : Byte)[7] = false ∨ rejecting.maskMode = .mask) ∧ State.reset.maskMode = .mask
      ∧ (0xFF : Byte)[7] = true ∧ rejecting.maskMode = .reject
      ∧ (after (.pack 0x35) rejecting).result = 0x00B5 ∧ after (.pack 0xFF) rejecting = rejecting.errorRecorded 2 := by decide

theorem witness_DecInit :
    ((0x52 : Byte), true, (0x72 : Char7), (7 : BitVec 8)) ∈ [((0x00 : Byte), false, (0x00 : Char7), (0 : BitVec 8)),
        (0x56, true, 0x76, 7), (0x53, true, 0x73, 67), (0x4C, true, 0x6C, 3), (0x58, true, 0x78, 3), (0x57, true, 0x77, 7),
        (0x52, true, 0x72, 7)]
      ∧ (0x72 : Byte) ∉ [0x00, 0x56, 0x53, 0x4C, 0x58, 0x57, 0x52]
      ∧ after (.decInit 0x72) State.reset = State.reset.errorRecorded 3 := by decide

theorem witness_VerdictHasSevenValues :
    exec (.decCheck 0x00) State.reset = .next { State.reset with statusLow := 0x05 }
      ∧ (0x21 : BitVec 6) ∈ [(0x03 : BitVec 6), 0x05, 0x09, 0x11, 0x15, 0x19, 0x21]
      ∧ State.reset.decCnt = 0 ∧ State.reset.decOvf = false ∧ State.reset.expValid = false
      ∧ (reply 0 0 0 0 0 ⟨true, 0x6C, 3⟩).expValid = true ∧ (reply 0 0 0 0 0 ⟨true, 0x6C, 3⟩).decCnt = 0
      ∧ (reply 0 0 0 0 0 ⟨true, 0x6C, 3⟩).decOvf = false ∧ (reply 0 0 0 0 0 ⟨true, 0x6C, 3⟩).expLen ≠ 0
      ∧ (0x01 : Byte) ≠ 0x00 := ⟨rfl, by decide, rfl, rfl, rfl, rfl, rfl, rfl, by decide, by decide⟩

theorem witness_Lookup :
    ((0x52 : Byte), (0x7207 : BitVec 16)) ∈ [((0x56 : Byte), (0x7607 : BitVec 16)), (0x53, 0x7343), (0x4C, 0x6C03),
        (0x58, 0x7803), (0x57, 0x7707), (0x52, 0x7207)]
      ∧ (0x00 : Byte) ∉ [0x56, 0x53, 0x4C, 0x58, 0x57, 0x52]
      ∧ (0xFF : Byte) ∉ [0x56, 0x53, 0x4C, 0x58, 0x57, 0x52] := by decide

theorem witness_Nop : (0x01 : Byte) ≠ 0x00 ∧ after (.nop 0x01) rejecting = rejecting.errorRecorded 4 := by decide

theorem witness_Clrerr :
    (0x01 : Byte) ≠ 0x00 ∧ ({ State.reset with errCause := 3 } : State).errCause ≠ 0
      ∧ after (.clrerr 0x01) { State.reset with errCause := 3 } = { State.reset with errCause := 3, errMore := true } := by
  decide

theorem witness_Families :
    exec (.pack 0x35) State.reset = .next (after (.pack 0x35) State.reset) ∧ (Instr.pack 0x35).isEncoder = true
      ∧ exec (.lookup 0x56) State.reset = .next (after (.lookup 0x56) State.reset) ∧ (Instr.lookup 0x56).isDecoder = true
      ∧ exec (.cfg 0x01) State.reset = .next rejecting ∧ Instr.cfg 0x01 ∈ [Instr.nop 0x01, .cfg 0x01, .clrerr 0x01]
      ∧ exec (.sreset 0x00) rejecting = .next State.reset := ⟨rfl, rfl, rfl, rfl, rfl, by decide, rfl⟩

theorem witness_RegistersHaveTheirWriters :
    exec (.encPush 0x56) State.reset = .next (after (.encPush 0x56) State.reset)
      ∧ (after (.encPush 0x56) State.reset).encAcc ≠ State.reset.encAcc
      ∧ (after (.encPush 0x56) State.reset).tx ≠ State.reset.tx
      ∧ (after (.decPush 0x56) State.reset).rx ≠ State.reset.rx
      ∧ (after (.decPush 0x56) State.reset).decCnt ≠ State.reset.decCnt
      ∧ (after (.decInit 0x56) State.reset).expLen ≠ State.reset.expLen
      ∧ (after (.decCheck 0x00) State.reset).statusLow ≠ State.reset.statusLow
      ∧ (after (.reservedB 0x00) State.reset).errCause ≠ State.reset.errCause
      ∧ (after (.pack 0x56) State.reset).result ≠ State.reset.result
      ∧ (after (.cfg 0x01) State.reset).maskMode ≠ State.reset.maskMode :=
  ⟨rfl, by decide, by decide, by decide, by decide, by decide, by decide, by decide, by decide, by decide⟩

theorem witness_StreamsOnlyGrow :
    step (State.reset.withFetchWord 12 0x300) = .next { State.reset with tx := [0xB0, 0xB0] } := rfl

theorem witness_StatusBits :
    (5 : Nat) < 6 ∧ exec (.decPush 0x56) State.reset = .next (after (.decPush 0x56) State.reset)
      ∧ Instr.decPush 0x56 ∈ [Instr.decInit 0x56, .decPush 0x56, .sreset 0x56]
      ∧ commandError State.reset.maskMode (.decPush 0x56) = none
      ∧ exec (.decCheck 0x00) State.reset = .next { State.reset with statusLow := 0x05 }
      ∧ ({ State.reset with statusLow := 0x05 } : State).flagDone = true := ⟨by decide, rfl, by decide, rfl, rfl, by decide⟩

theorem witness_Taxonomy :
    exec (.decCheck 0x00) (reply 0x78 0x37 0x38 0x78 3 ⟨true, 0x6C, 3⟩)
        = .next { reply 0x78 0x37 0x38 0x78 3 ⟨true, 0x6C, 3⟩ with statusLow := 0x21 }
      ∧ exec (.decPush 0x56) State.reset = .next (after (.decPush 0x56) State.reset) := ⟨rfl, rfl⟩

theorem witness_NoPartialReply :
    (reply 0x6C 0x36 0x43 0x6C 3 ⟨true, 0x6C, 3⟩).expValid = true
      ∧ exec (.decCheck 0x00) (reply 0x6C 0x36 0x43 0x6C 3 ⟨true, 0x6C, 3⟩)
        = .next { reply 0x6C 0x36 0x43 0x6C 3 ⟨true, 0x6C, 3⟩ with statusLow := 0x03 }
      ∧ ({ reply 0x6C 0x36 0x43 0x6C 3 ⟨true, 0x6C, 3⟩ with statusLow := 0x03 } : State).status[1] = true :=
  ⟨rfl, rfl, by decide⟩

/-- For the statements of R26, R125 and the round trip over both halves. -/
theorem witness_Encoder :
    State.reset.encAcc = 0x00 ∧ (∀ d ∈ ([0x56, 0xD3] : List Byte), EncoderAccepts State.reset.maskMode d)
      ∧ (∀ d ∈ ([0x56, 0x7F] : List Byte), EncoderAccepts rejecting.maskMode d)
      ∧ Instr.encFinish 0x00 ∈ [Instr.encInit 0x00, .encFinish 0x00, .sreset 0x00] := by
  unfold EncoderAccepts; decide

theorem witness_RejectedCharacters :
    rejecting.maskMode = .reject
      ∧ runCommands ([0xD6, 0x53].map Instr.encPush) rejecting
        = .next { rejecting with encAcc := 0x53, tx := [0xD3], errCause := 2 }
      ∧ runCommands ([0xD6, 0xFF].map Instr.encPush) rejecting = .next { rejecting with errCause := 2, errMore := true } :=
  ⟨rfl, rfl, rfl⟩

theorem witness_DecoderHistory :
    commandError State.reset.maskMode (.decInit 0x56) = none
      ∧ exec (.decInit 0x56) State.reset = .next (reply 0 0 0 0 0 ⟨true, 0x76, 7⟩)
      ∧ exec (.sreset 0x00) rejecting = .next State.reset ∧ HoldsHistory State.reset []
      ∧ HoldsHistory (reply 0x6C 0x36 0x43 0x6C 3 noEntry) [0x6C, 0x36, 0x43] :=
  ⟨rfl, rfl, rfl, ⟨rfl, rfl, rfl, rfl, rfl, rfl⟩, ⟨rfl, rfl, rfl, rfl, rfl, rfl⟩⟩

theorem witness_TableMode :
    replyTable 0x53 = ⟨true, 0x73, 67⟩
      ∧ runCommands (Pseudo.verify 0x4C [0xEC, 0xB6, 0x43]).expand State.reset
        = .next { reply 0x6C 0x36 0x43 0x6C 3 ⟨true, 0x6C, 3⟩ with statusLow := 0x03, rx := [0x6C, 0x36, 0x43] } := ⟨rfl, rfl⟩

theorem reset_inv : Inv State.reset where
  causeDefined := by decide
  moreAfterFirst := by decide
  verdictCurrent := by decide
  overflowSaturated := by decide
  historyOfNone := by decide
  historyOfOne := by decide
  historyOfTwo := by decide
  historyOfThree := by decide
  expectation := ⟨0x00, by decide⟩
  resultShape := .inr (by decide)
  txOdd := by decide

/-- A state in the middle of a reply that meets the invariant, and its step. -/
theorem witness_StepKeepsTheInvariant :
    Inv (State.reset.withFetchWord 12 0x256)
      ∧ step (State.reset.withFetchWord 12 0x256) = .next { State.reset with encAcc := 0x56, tx := [0xD6] } :=
  ⟨⟨reset_inv.1, reset_inv.2, reset_inv.3, reset_inv.4, reset_inv.5, reset_inv.6, reset_inv.7, reset_inv.8, reset_inv.9,
    reset_inv.10, reset_inv.11⟩, rfl⟩

theorem witness_AssemblingTheText :
    render (.decPush 0xEC) = some "DEC_PUSH 0xEC".toList ∧ Accepted .reject (.decPush 0xEC) := by decide

theorem witness_EncodeLine : ∀ c ∈ [';', '\'', 'V'], c.toNat < 128 ∧ c ≠ '"' := by simp

end Sys2Proof.Tests
end

section
/-!
PROOFS. The statements about the state (spec/10_state.md): the layout of `STATUS`, the writers of each register, the streams,
the error record, the checksum and the decoder's history over runs, and the invariant.
-/

namespace Sys2Proof.Machine

/-! ### Shared facts: the effects made of several operations, the error codes -/

namespace State
variable (s : State) (p : ParitySense) (c : Char7)

@[simp] theorem encodeChar_eq : s.encodeChar p c = (s.setEncAcc (s.encAcc ^^^ c)).emitTx (pack p c) := rfl

@[simp] theorem finishMessage_eq : s.finishMessage p
    = ((s.emitTx (pack p (hex2 s.encAcc).1)).emitTx (pack p (hex2 s.encAcc).2)).setEncAcc 0 := rfl

@[simp] theorem acceptChar_eq : s.acceptChar c = (s.shiftHistory c).emitRx c := rfl

end State

theorem CmdError.code_ne_zero (c : CmdError) : c.code ≠ 0 := by cases c <;> decide

theorem CmdError.code_le_four (c : CmdError) : c.code.toNat ≤ 4 := by cases c <;> decide

theorem zeroDataError_eq_none {d : Byte} : zeroDataError d = none ↔ d = 0x00 := by simp [zeroDataError]

/-! ### `STATUS` (R35) -/

section
variable (s : State)

theorem status_low : s.status.extractLsb' 0 6 = s.statusLow := BitVec.extractLsb'_append_eq_right

theorem status_high : s.status.extractLsb' 6 2 = BitVec.ofBool (s.errCause ≠ 0) ++ 0#1 := BitVec.extractLsb'_append_eq_left

theorem getElem_ofBool_append_zero :
    ∀ b : Bool, (BitVec.ofBool b ++ 0#1)[0] = false ∧ (BitVec.ofBool b ++ 0#1)[1] = b := by decide

theorem status_bit_six : s.status[6] = false := by
  have bit := congrArg (·[0]) (status_high s)
  simpa using bit.trans (getElem_ofBool_append_zero _).1

theorem status_bit_seven : s.status[7] = decide (s.errCause ≠ 0) := by
  have bit := congrArg (·[1]) (status_high s)
  simpa using bit.trans (getElem_ofBool_append_zero _).2

theorem status_getLsbD_low {i : Nat} (hi : i < 6) : s.status.getLsbD i = s.statusLow.getLsbD i := by
  simp [← status_low s, hi]

theorem flagDone_eq : s.flagDone = s.statusLow.getLsbD 0 := status_getLsbD_low s (by decide)

end

/-! ### Which commands write which registers (R22) -/

section
variable {i : Instr} {s t : State}

/-- What a command error leaves alone is changed by the effect of an accepted command only (R192). -/
theorem effect_changes_of_exec {α : Type} (field : State → α) (h : exec i s = .next t)
    (hRaise : ∀ c, field (s.raise c) = field s) (hne : field t ≠ field s) :
    Accepted s.maskMode i ∧ field (effect i s) ≠ field s := by
  obtain ⟨c, -, rfl⟩ | ⟨accepted, rfl⟩ := exec_cases h
  · exact absurd (hRaise c) hne
  · exact ⟨accepted, hne⟩

theorem writer_of_encAcc (h : (effect i s).encAcc ≠ s.encAcc) :
    ∃ d, i ∈ [.encInit d, .encPush d, .encFinish d, .sreset d] := by
  cases i <;> simp [effect] at h ⊢

theorem writer_of_history
    (h : ((effect i s).decAcc, (effect i s).decH1, (effect i s).decH0, (effect i s).decFirst, (effect i s).decCnt,
      (effect i s).decOvf) ≠ (s.decAcc, s.decH1, s.decH0, s.decFirst, s.decCnt, s.decOvf)) :
    ∃ d, i ∈ [.decInit d, .decPush d, .sreset d] := by
  cases i <;> simp [effect] at h ⊢

theorem writer_of_expectation
    (h : ((effect i s).expValid, (effect i s).expMark, (effect i s).expLen) ≠ (s.expValid, s.expMark, s.expLen)) :
    ∃ d, i ∈ [.decInit d, .sreset d] := by
  cases i <;> simp [effect] at h ⊢

theorem writer_of_statusLow (h : (effect i s).statusLow ≠ s.statusLow) :
    ∃ d, i ∈ [.decInit d, .decPush d, .decCheck d, .sreset d] := by
  cases i <;> simp [effect] at h ⊢

theorem writer_of_errorRecord (h : ((effect i s).errCause, (effect i s).errMore) ≠ (s.errCause, s.errMore)) :
    ∃ d, i ∈ [.clrerr d, .sreset d] := by
  cases i <;> simp [effect] at h ⊢

theorem writer_of_result (h : (effect i s).result ≠ s.result) : ∃ d, i ∈ [.pack d, .lookup d, .sreset d] := by
  cases i <;> simp [effect] at h ⊢

theorem writer_of_maskMode (h : (effect i s).maskMode ≠ s.maskMode) : ∃ d, i ∈ [.cfg d, .sreset d] := by
  cases i <;> simp [effect] at h ⊢

theorem writer_of_tx (h : (effect i s).tx ≠ s.tx) : ∃ d, i ∈ [.encPush d, .encFinish d] := by
  cases i <;> simp [effect] at h ⊢

theorem writer_of_rx (h : (effect i s).rx ≠ s.rx) : ∃ d, i = .decPush d := by
  cases i <;> simp [effect] at h ⊢

end

/-- Settles O37: an error is recorded and nothing else (`effect_changes_of_exec`), and each register has its writers. -/
theorem registersHaveTheirWriters : Obligations.RegistersHaveTheirWriters := by
  unfold Obligations.RegistersHaveTheirWriters
  intro i s t h
  refine ⟨fun ne => ?encAcc, fun ne => ?history, fun ne => ?expectation, fun ne => ?statusLow, fun ne => ?errorRecord,
    fun ne => ?result, fun ne => ?maskMode, fun ne => ?tx, fun ne => ?rx, exec_pending h⟩
  case encAcc => exact (effect_changes_of_exec (·.encAcc) h (by simp) ne).imp_right writer_of_encAcc
  case history =>
    exact (effect_changes_of_exec (fun s => (s.decAcc, s.decH1, s.decH0, s.decFirst, s.decCnt, s.decOvf)) h (by simp)
      ne).imp_right writer_of_history
  case expectation =>
    exact (effect_changes_of_exec (fun s => (s.expValid, s.expMark, s.expLen)) h (by simp) ne).imp_right
      writer_of_expectation
  case statusLow => exact (effect_changes_of_exec (·.statusLow) h (by simp) ne).imp_right writer_of_statusLow
  case errorRecord =>
    obtain ⟨c, failing, -⟩ | ⟨accepted, rfl⟩ := exec_cases h
    · exact .inl (by simp [failing])
    · exact .inr ⟨accepted, writer_of_errorRecord ne⟩
  case result => exact (effect_changes_of_exec (·.result) h (by simp) ne).imp_right writer_of_result
  case maskMode => exact (effect_changes_of_exec (·.maskMode) h (by simp) ne).imp_right writer_of_maskMode
  case tx => exact (effect_changes_of_exec (·.tx) h (by simp) ne).imp_right writer_of_tx
  case rx => exact (effect_changes_of_exec (·.rx) h (by simp) ne).imp_right writer_of_rx

section
variable {i : Instr} {s t : State} {d : Byte}

/-- The accepted commands that end a verdict (R233). -/
theorem statusLow_of_clearing (h : exec i s = .next t) (clearing : i ∈ [.decInit d, .decPush d, .sreset d])
    (accepted : commandError s.maskMode i = none) : t.statusLow = 0 := by
  have ht : t = effect i s := by simpa [h] using exec_accepted accepted
  simp only [List.mem_cons, List.not_mem_nil, or_false] at clearing
  rcases clearing with rfl | rfl | rfl <;> simp [ht, effect]

theorem flagDone_false_of_statusLow (h : t.statusLow = 0) : t.flagDone = false := by simp [flagDone_eq, h]

theorem flagDone_of_exec (h : exec i s = .next t) (done : t.flagDone = true) :
    s.flagDone = true ∨ i = .decCheck 0x00 := by
  by_cases same : t.statusLow = s.statusLow
  · exact .inl (by rwa [flagDone_eq, ← same, ← flagDone_eq])
  obtain ⟨accepted, changed⟩ := effect_changes_of_exec (·.statusLow) h (by simp) same
  obtain ⟨d, writer⟩ := writer_of_statusLow changed
  by_cases clearing : i ∈ [.decInit d, .decPush d, .sreset d]
  · simp [flagDone_false_of_statusLow (statusLow_of_clearing h clearing accepted)] at done
  · obtain rfl : i = .decCheck d := by
      simp only [List.mem_cons, List.not_mem_nil, or_false, not_or] at writer clearing
      tauto
    exact .inr (by rw [zeroDataError_eq_none.mp accepted])

end

/-- Settles O39: of the writers of `STATUS[5:0]` all but DEC_CHECK clear it. -/
theorem statusBitsAreAsLaidOut : Obligations.StatusBitsAreAsLaidOut :=
  ⟨fun s => ⟨status_bit_six s, by simp [status_bit_seven], fun _ => status_getLsbD_low s⟩,
    fun _ _ t _ h clearing accepted => (status_low t).trans (statusLow_of_clearing h clearing accepted),
    fun _ _ _ => flagDone_of_exec⟩

/-! ### The streams (R42) -/

section
variable {i : Instr} {s t : State}

theorem exec_tx (h : exec i s = .next t) : ∃ bs, t.tx = s.tx ++ bs ∧ bs.length ≤ 2 := by
  obtain ⟨c, -, rfl⟩ | ⟨-, rfl⟩ := exec_cases h
  · simp
  · cases i <;> simp [effect]

theorem exec_rx (h : exec i s = .next t) : ∃ cs, t.rx = s.rx ++ cs ∧ cs.length ≤ 1 := by
  obtain ⟨c, -, rfl⟩ | ⟨-, rfl⟩ := exec_cases h
  · simp
  · cases i <;> simp [effect]

theorem step_tx (h : step s = .next t) : ∃ bs, t.tx = s.tx ++ bs ∧ bs.length ≤ 2 := by
  obtain ⟨-, rfl⟩ | ⟨w, later, -, hw⟩ | ⟨later, -, rfl⟩ := step_cases h
  · simp
  · obtain ⟨bs, tx, bytes⟩ := exec_tx hw
    exact ⟨bs, tx, bytes⟩
  · simp

theorem step_rx (h : step s = .next t) : ∃ cs, t.rx = s.rx ++ cs ∧ cs.length ≤ 1 := by
  obtain ⟨-, rfl⟩ | ⟨w, later, -, hw⟩ | ⟨later, -, rfl⟩ := step_cases h
  · simp
  · obtain ⟨cs, rx, chars⟩ := exec_rx hw
    exact ⟨cs, rx, chars⟩
  · simp

theorem txAppended_of_tx {bs : List Byte} (h : t.tx = s.tx ++ bs) : (reportOf s t).txAppended = bs := by
  simp [reportOf, h]

theorem rxAppended_of_rx {cs : List Char7} (h : t.rx = s.rx ++ cs) : (reportOf s t).rxAppended = cs := by
  simp [reportOf, h]

end

/-- Settles O38: the report of a step is what the stream gained. -/
theorem streamsOnlyGrow : Obligations.StreamsOnlyGrow := by
  intro s t h
  obtain ⟨bs, tx, bytes⟩ := step_tx h
  obtain ⟨cs, rx, chars⟩ := step_rx h
  rw [txAppended_of_tx tx, rxAppended_of_rx rx]
  exact ⟨tx, rx, bytes, chars⟩

/-! ### Runs -/

/-- A run of a list that answers: its first command answers, and the rest goes on from there. -/
theorem runCommands_cons_next {i : Instr} {is : List Instr} {s t : State} (h : runCommands (i :: is) s = .next t) :
    ∃ u, exec i s = .next u ∧ runCommands is u = .next t := by
  simp only [runCommands] at h
  split at h
  · next u hu => exact ⟨u, hu, h⟩
  all_goals cases h

theorem runCommands_cons_accepted {i : Instr} {s : State} (is : List Instr) (h : commandError s.maskMode i = none) :
    runCommands (i :: is) s = runCommands is (effect i s) := runCommands_cons is (exec_accepted h)

section
variable {i : Instr} {is : List Instr} {s t : State}

theorem raisedErrors_cons_accepted (h : commandError s.maskMode i = none) :
    raisedErrors (i :: is) s = raisedErrors is (effect i s) := by
  simp [raisedErrors, h, exec_accepted h]

theorem raisedErrors_cons_failing {c : CmdError} (h : commandError s.maskMode i = some c) :
    raisedErrors (i :: is) s = c :: raisedErrors is (s.raise c) := by
  simp [raisedErrors, h, exec_failing h]

/-- Over a recorded first error, a run that does not end the record keeps it and sets `ERR_MORE` at a further error. -/
theorem errorRecord_of_run_over_error (keeps : ∀ i ∈ is, endsErrorRecord i = false) (recorded : s.errCause ≠ 0)
    (h : runCommands is s = .next t) :
    t.errCause = s.errCause ∧ t.errMore = (s.errMore || decide (raisedErrors is s ≠ [])) := by
  induction is generalizing s with
  | nil => cases h; simp [raisedErrors]
  | cons i is ih =>
    obtain ⟨keeps_i, keeps_is⟩ := List.forall_mem_cons.mp keeps
    obtain ⟨u, hu, hrun⟩ := runCommands_cons_next h
    obtain ⟨c, failing, rfl⟩ | ⟨accepted, rfl⟩ := exec_cases hu
    · have cause : (s.raise c).errCause = s.errCause := by rw [State.raise_errCause, if_neg recorded]
      have more : (s.raise c).errMore = true := by rw [State.raise_errMore, if_neg recorded]
      have := ih keeps_is (by rwa [cause]) hrun
      rw [cause, more] at this
      simpa [raisedErrors_cons_failing failing] using this
    · obtain ⟨cause, more⟩ := effect_keeps_errors accepted keeps_i
      have := ih keeps_is (by rwa [cause]) hrun
      rwa [raisedErrors_cons_accepted accepted, ← cause, ← more]

theorem errorRecord_of_run (keeps : ∀ i ∈ is, endsErrorRecord i = false) (noCause : s.errCause = 0)
    (noMore : s.errMore = false) (h : runCommands is s = .next t) :
    t.errCause = (raisedErrors is s).head?.elim 0 CmdError.code
      ∧ t.errMore = decide (2 ≤ (raisedErrors is s).length) := by
  induction is generalizing s with
  | nil => cases h; simp [raisedErrors, noCause, noMore]
  | cons i is ih =>
    obtain ⟨keeps_i, keeps_is⟩ := List.forall_mem_cons.mp keeps
    obtain ⟨u, hu, hrun⟩ := runCommands_cons_next h
    obtain ⟨c, failing, rfl⟩ | ⟨accepted, rfl⟩ := exec_cases hu
    · have first : (s.raise c).errCause = c.code := by simp [noCause]
      obtain ⟨cause, more⟩ := errorRecord_of_run_over_error keeps_is (first ▸ c.code_ne_zero) hrun
      rw [raisedErrors_cons_failing failing]
      exact ⟨cause.trans first, by simp [more, noCause, noMore, Nat.succ_le_iff, List.length_pos_iff]⟩
    · obtain ⟨cause, more⟩ := effect_keeps_errors accepted keeps_i
      rw [raisedErrors_cons_accepted accepted]
      exact ih keeps_is (by rw [cause, noCause]) (by rw [more, noMore]) hrun

end

/-- Settles O21, by induction on the run: up to the first error, and then over it. -/
theorem firstErrorWinsOverARun : Obligations.FirstErrorWinsOverARun := by
  refine ⟨?run, ?ending, rfl, rfl⟩
  case run =>
    intro is s t keeps noCause noMore h
    obtain ⟨cause, more⟩ := errorRecord_of_run keeps noCause noMore h
    exact ⟨cause.trans (by cases (raisedErrors is s).head? <;> rfl), more⟩
  case ending =>
    intro s i ending
    simp only [List.mem_cons, List.not_mem_nil, or_false] at ending
    rcases ending with rfl | rfl <;> exact ⟨_, rfl, rfl, rfl⟩

/-! ### The encoder's checksum (R26) -/

theorem commandError_encPush_of_accepts {m : MaskMode} {d : Byte} (h : EncoderAccepts m d) :
    commandError m (.encPush d) = none := by
  obtain low | rfl := h
  · simp [commandError, sevenBitError, low]
  · simp [commandError, sevenBitError]

/-- Accepted pushes add their characters to the checksum and emit their wire bytes, and do nothing else. -/
theorem runCommands_encPush (m : List Byte) (s : State) (h : ∀ d ∈ m, EncoderAccepts s.maskMode d) :
    runCommands (m.map Instr.encPush) s
      = .next { s with encAcc := s.encAcc ^^^ csum m, tx := s.tx ++ m.map fun d => pack .odd (unpack d) } := by
  induction m generalizing s with
  | nil => simp
  | cons d m ih =>
    obtain ⟨accepts, later⟩ := List.forall_mem_cons.mp h
    rw [List.map_cons, runCommands_cons_accepted _ (commandError_encPush_of_accepts accepts),
      ih (effect (.encPush d) s) later]
    simp [effect, BitVec.xor_assoc, Config.paritySense, State.emitTx, State.setEncAcc]

/-- Settles O42, by induction on the message (`runCommands_encPush`). -/
theorem encoderAccumulatesTheChecksum : Obligations.EncoderAccumulatesTheChecksum := by
  refine ⟨?clearing, rfl, fun m s cleared accepts => ⟨_, runCommands_encPush m s accepts, by simp [cleared]⟩⟩
  case clearing =>
    intro s i clearing
    simp only [List.mem_cons, List.not_mem_nil, or_false] at clearing
    rcases clearing with rfl | rfl | rfl <;> exact ⟨_, rfl, rfl⟩

/-! ### The decoder's history (R32) -/

section
variable {s : State} {cs : List Char7}

theorem xorAll_dropLast_xor_getLastD (cs : List Char7) : xorAll cs.dropLast ^^^ cs.getLastD 0 = xorAll cs := by
  induction cs using List.reverseRecOn with
  | nil => rfl
  | append_singleton cs c => simp [xorAll_append]

theorem holdsHistory_startReply (s : State) (e : ReplyEntry) : HoldsHistory (s.startReply e) [] :=
  ⟨rfl, rfl, rfl, rfl, rfl, rfl⟩

theorem holdsHistory_resetRegisters (s : State) : HoldsHistory s.resetRegisters [] :=
  ⟨rfl, rfl, rfl, rfl, rfl, rfl⟩

theorem HoldsHistory.decCnt_toNat (h : HoldsHistory s cs) : s.decCnt.toNat = min cs.length 255 := by
  rw [h.count, BitVec.toNat_ofNat]
  omega

theorem HoldsHistory.acceptChar (h : HoldsHistory s cs) (c : Char7) : HoldsHistory (s.acceptChar c) (cs ++ [c]) := by
  have cnt := h.decCnt_toNat
  have zero : s.decCnt = 0#8 ↔ cs = [] := by
    rw [← List.length_eq_zero_iff]; bv_omega
  have full : s.decCnt = 255#8 ↔ 255 ≤ cs.length := by bv_omega
  have two : 2#8 ≤ s.decCnt ↔ 2 ≤ cs.length := by bv_omega
  constructor
  case count =>
    simp only [State.acceptChar_eq, State.emitRx_decCnt, State.shiftHistory_decCnt, List.length_append,
      List.length_singleton]
    split <;> bv_omega
  case overflow =>
    by_cases saturated : 255 ≤ cs.length
    · simp [full, saturated]
    · simp [full, saturated, h.overflow]; omega
  case first => cases cs <;> simp [zero, h.first]
  case last => simp
  case beforeLast => simp [h.last]
  case others =>
    have shifted := xorAll_dropLast_xor_getLastD cs.dropLast
    by_cases long : 2 ≤ cs.length
    · simpa [two, long, h.others, h.beforeLast] using shifted
    · have none : cs.dropLast = [] := List.eq_nil_of_length_eq_zero (by simp; omega)
      simp [two, long, h.others, none]

theorem runCommands_decPush (bs : List Byte) (h : HoldsHistory s cs) :
    ∃ t, runCommands (bs.map Instr.decPush) s = .next t ∧ HoldsHistory t (cs ++ bs.map unpack)
      ∧ t.rx = s.rx ++ bs.map unpack := by
  induction bs generalizing s cs with
  | nil => exact ⟨s, by simpa using h⟩
  | cons b bs ih =>
    obtain ⟨t, run, history, rx⟩ := ih (h.acceptChar (unpack b))
    rw [List.map_cons, runCommands_cons_accepted _ rfl]
    exact ⟨t, run, by simpa using history, by simpa using rx⟩

end

/-- Settles O45: each character extends the history (`HoldsHistory.acceptChar`), so by induction any list does. -/
theorem decoderHoldsTheHistory : Obligations.DecoderHoldsTheHistory := by
  refine ⟨?start, ⟨rfl, rfl, rfl, rfl, rfl, rfl⟩, ?reset, fun bs _ _ => runCommands_decPush bs⟩
  case start =>
    intro s t d accepted h
    cases (exec_accepted accepted).symm.trans h
    exact holdsHistory_startReply s _
  case reset =>
    intro s t h
    cases h
    exact holdsHistory_resetRegisters s

/-! ### The invariant: it holds at reset and every operation keeps it -/

section
variable {s t : State}

theorem oddParity_pack_odd : ∀ v : Char7, OddParity (pack .odd v) := by decide

/-- What PACK writes: a byte of odd parity under a zero high byte (R124). -/
theorem resultShape_pack (v : Char7) : ResultShape ((pack .odd v).setWidth 16) := by
  have high : ((pack .odd v).setWidth 16).extractLsb' 8 8 = 0 := by
    ext i hi
    simp
  have low : ((pack .odd v).setWidth 16).extractLsb' 0 8 = pack .odd v := by
    ext i hi
    simp [show i < 16 by omega, BitVec.getLsbD_eq_getElem hi]
  exact .inl ⟨high, by rw [low]; exact oddParity_pack_odd v⟩

/-- What LOOKUP writes: a row of R147, or 0x0000. -/
theorem resultShape_lookup (d : Byte) :
    ResultShape ((replyTable d).marker.setWidth 8 ++ (replyTable d).length) := by
  right
  unfold replyTable
  repeat' split
  all_goals decide

theorem inv_reset : Inv State.reset where
  causeDefined := by decide
  moreAfterFirst := nofun
  verdictCurrent := .inl rfl
  overflowSaturated := nofun
  historyOfNone _ := ⟨rfl, rfl, rfl, rfl⟩
  historyOfOne := nofun
  historyOfTwo := nofun
  historyOfThree := nofun
  expectation := ⟨0x00, rfl⟩
  resultShape := .inr (by decide)
  txOdd := nofun

theorem inv_raise (h : Inv s) (c : CmdError) : Inv (s.raise c) := by
  unfold State.raise
  split
  · exact { h with causeDefined := c.code_le_four, moreAfterFirst := fun _ => c.code_ne_zero }
  · next recorded => exact { h with moreAfterFirst := fun _ => recorded }

theorem inv_setPending (h : Inv s) (later : List Input) : Inv { s with pending := later } := { h with }

theorem inv_clearErrors (h : Inv s) : Inv s.clearErrors := { h with causeDefined := Nat.zero_le 4, moreAfterFirst := nofun }

theorem inv_setEncAcc (h : Inv s) (a : Char7) : Inv (s.setEncAcc a) := { h with }

theorem inv_setMaskMode (h : Inv s) (m : MaskMode) : Inv (s.setMaskMode m) := { h with }

theorem inv_emitRx (h : Inv s) (c : Char7) : Inv (s.emitRx c) := { h with }

theorem inv_emitTx (h : Inv s) {b : Byte} (hb : OddParity b) : Inv (s.emitTx b) :=
  { h with txOdd := by simpa [or_imp, forall_and] using ⟨h.txOdd, hb⟩ }

theorem inv_setResult (h : Inv s) {r : BitVec 16} (hr : ResultShape r) : Inv (s.setResult r) :=
  { h with resultShape := hr }

theorem inv_latchVerdict (h : Inv s) : Inv (s.setStatusLow s.verdict) :=
  { h with verdictCurrent := .inr (by simp) }

theorem inv_resetRegisters (h : Inv s) : Inv s.resetRegisters := { inv_reset with txOdd := h.txOdd }

theorem inv_startReply (h : Inv s) (d : Byte) : Inv (s.startReply (replyTable d)) :=
  { h with
    verdictCurrent := .inl rfl
    overflowSaturated := nofun
    historyOfNone := fun _ => ⟨rfl, rfl, rfl, rfl⟩
    historyOfOne := nofun
    historyOfTwo := nofun
    historyOfThree := nofun
    expectation := ⟨d, rfl⟩ }

/-- Below saturation the count after a character is one more than before it (R30). -/
theorem decCnt_of_shiftHistory {c : Char7} {n : BitVec 8} (hn : n < 254) (h : (s.shiftHistory c).decCnt = n + 1) :
    s.decCnt = n := by
  rw [State.shiftHistory_decCnt] at h
  split at h <;> bv_omega

theorem inv_shiftHistory (h : Inv s) (c : Char7) : Inv (s.shiftHistory c) :=
  { h with
    verdictCurrent := .inl rfl
    overflowSaturated := by
      by_cases full : s.decCnt = 255
      · simp [full]
      · intro overflow
        rw [State.shiftHistory_decOvf, if_neg full] at overflow
        exact absurd (h.overflowSaturated overflow) full
    historyOfNone := by
      intro h0
      rw [State.shiftHistory_decCnt] at h0
      split at h0 <;> bv_omega
    historyOfOne := by
      intro h1
      have h0 : s.decCnt = 0 := decCnt_of_shiftHistory (by decide) h1
      simp [h0, h.historyOfNone h0]
    historyOfTwo := by
      intro h2
      have h1 : s.decCnt = 1 := decCnt_of_shiftHistory (by decide) h2
      simp [h1, h.historyOfOne h1]
    historyOfThree := by
      intro h3
      have h2 : s.decCnt = 2 := decCnt_of_shiftHistory (by decide) h3
      simp [h2, h.historyOfTwo h2] }

theorem inv_effect (h : Inv s) (i : Instr) : Inv (effect i s) := by
  cases i with
  | nop _ | reservedB _ | reservedC _ | reservedD _ | reservedE _ => exact h
  | encInit _ => exact inv_setEncAcc h 0
  | encPush d => exact inv_emitTx (inv_setEncAcc h _) (oddParity_pack_odd _)
  | encFinish _ =>
    exact inv_setEncAcc (inv_emitTx (inv_emitTx h (oddParity_pack_odd _)) (oddParity_pack_odd _)) 0
  | decInit d => exact inv_startReply h d
  | decPush d => exact inv_emitRx (inv_shiftHistory h _) _
  | decCheck _ => exact inv_latchVerdict h
  | pack d => exact inv_setResult h (resultShape_pack _)
  | lookup d => exact inv_setResult h (resultShape_lookup d)
  | cfg d => exact inv_setMaskMode h _
  | clrerr _ => exact inv_clearErrors h
  | sreset _ => exact inv_resetRegisters h

theorem inv_exec {i : Instr} (hs : Inv s) (h : exec i s = .next t) : Inv t := by
  obtain ⟨c, -, rfl⟩ | ⟨-, rfl⟩ := exec_cases h
  · exact inv_raise hs c
  · exact inv_effect hs i

theorem inv_step (hs : Inv s) (h : step s = .next t) : Inv t := by
  obtain ⟨-, rfl⟩ | ⟨w, later, -, hw⟩ | ⟨later, -, rfl⟩ := step_cases h
  · exact hs
  · exact inv_exec (inv_setPending hs later) hw
  · exact inv_resetRegisters (inv_setPending hs later)

end

/-- Settles O51: each effect keeps the invariant, and a step is a command's error or effect, a reset, or nothing. -/
theorem stepKeepsTheInvariant : Obligations.StepKeepsTheInvariant := fun _ _ => inv_step

/-- Settles O50: nothing has been received, recorded or emitted. -/
theorem resetMeetsTheInvariant : Obligations.ResetMeetsTheInvariant := inv_reset

/-- Settles O49: the reset state is a closed term. -/
theorem resetValuesAreTheTables : Obligations.ResetValuesAreTheTables := by
  unfold Obligations.ResetValuesAreTheTables
  decide

end Sys2Proof.Machine
end

section
/-!
PROOFS. The statements about what the machine keeps between commands (spec/20_memory.md): a step runs the decoded command,
the issued words run in order, and the encoder and the decoder do not disturb each other.
-/

namespace Sys2Proof.Machine

/-! ### The state after a command, as a function -/

/-- The state a command leaves: with its error recorded, or with its effect (`exec_eq_after`). -/
def State.after (s : State) (i : Instr) : State :=
  match commandError s.maskMode i with
  | some c => s.raise c
  | none => effect i s

theorem exec_eq_after (i : Instr) (s : State) : exec i s = .next (s.after i) := by
  rw [exec_eq_complete, State.after]
  cases commandError s.maskMode i <;> rfl

theorem runCommands_eq_foldl (is : List Instr) (s : State) : runCommands is s = .next (is.foldl State.after s) := by
  induction is generalizing s with
  | nil => rfl
  | cons i is ih => rw [runCommands_cons is (exec_eq_after i s), ih, List.foldl_cons]

/-! ### One step (R56, R70) -/

theorem getElem_opcode_append (op : BitVec 4) (d : Byte) :
    (op ++ d : CmdWord)[11] = op[3] ∧ (op ++ d : CmdWord)[10] = op[2] ∧ (op ++ d : CmdWord)[9] = op[1]
      ∧ (op ++ d : CmdWord)[8] = op[0] :=
  ⟨BitVec.getElem_append _, BitVec.getElem_append _, BitVec.getElem_append _, BitVec.getElem_append _⟩

/-- The decoder reads back the operation code and the data field that the encoder placed. -/
theorem decode_encode (i : Instr) : decode (encode i) = i := by
  obtain ⟨b11, b10, b9, b8⟩ := getElem_opcode_append (opcode i) i.data
  have data : dataField (opcode i ++ i.data) = i.data := (Laws.FieldsOfWord.fields_append _ _).2
  rw [decode, encode, b11, b10, b9, b8, data]
  cases i <;> simp [opcode, Instr.data]

theorem step_command {s : State} {w : CmdWord} {later : List Input} (h : s.pending = .command w :: later) :
    step s = exec (decode w) { s with pending := later } := by
  simp [step, h]

/-- Settles O14: the word's arm of `step`, and `decode_encode`. -/
theorem stepRunsTheDecodedCommand : Obligations.StepRunsTheDecodedCommand :=
  ⟨fun _ _ _ => step_command, fun _ i _ h => by rw [step_command h, decode_encode]⟩

/-! ### The issued words, in order (R56) -/

theorem raise_setPending (s : State) (c : CmdError) (p : List Input) :
    State.raise { s with pending := p } c = { s.raise c with pending := p } := by
  simp only [raise_eq_errorRecorded, State.errorRecorded]

theorem effect_setPending (i : Instr) (s : State) (p : List Input) :
    effect i { s with pending := p } = { effect i s with pending := p } := by
  cases i <;> rfl

/-- No command reads the host's inputs: with others waiting it leaves the same registers and streams. -/
theorem exec_setPending (i : Instr) (s : State) (p : List Input) :
    exec i { s with pending := p } = .next { s.after i with pending := p } := by
  rw [exec_eq_complete, State.after]
  cases commandError s.maskMode i with
  | some c => exact congrArg _ (raise_setPending s c p)
  | none => exact congrArg _ (effect_setPending i s p)

/-- Settles O17, by induction on the words: a step runs the first of them, and which inputs wait behind it makes no
difference to it (`exec_setPending`). -/
theorem issuedCommandsRunInOrder : Obligations.IssuedCommandsRunInOrder := by
  intro ws
  induction ws with
  | nil =>
    rintro s later rfl
    rfl
  | cons w ws ih =>
    intro s later h
    have first := (step_command h).trans (exec_setPending (decode w) s _)
    rw [List.map_cons, runCommands_cons _ (exec_setPending (decode w) s later)]
    exact (core_run_succ _ first).trans (ih _ later rfl)

/-! ### The two halves do not disturb each other (R58) -/

theorem SameEncoder.refl (s : State) : SameEncoder s s := by constructor <;> rfl

theorem SameDecoder.refl (s : State) : SameDecoder s s := by constructor <;> rfl

section
variable {i : Instr} {s t u : State}

theorem SameEncoder.trans (h : SameEncoder s t) (h' : SameEncoder t u) : SameEncoder s u :=
  ⟨h.encAcc.trans h'.encAcc, h.maskMode.trans h'.maskMode, h.tx.trans h'.tx⟩

theorem SameDecoder.trans (h : SameDecoder s t) (h' : SameDecoder t u) : SameDecoder s u :=
  ⟨h.decAcc.trans h'.decAcc, h.decH1.trans h'.decH1, h.decH0.trans h'.decH0, h.decFirst.trans h'.decFirst,
    h.decCnt.trans h'.decCnt, h.decOvf.trans h'.decOvf, h.expValid.trans h'.expValid, h.expMark.trans h'.expMark,
    h.expLen.trans h'.expLen, h.statusLow.trans h'.statusLow, h.rx.trans h'.rx⟩

theorem SameEncoder.raise (h : SameEncoder s t) (c : CmdError) : SameEncoder (s.raise c) (t.raise c) := by
  constructor <;> simp [h.encAcc, h.maskMode, h.tx]

/-- The encoder's half of an effect is a function of the encoder's half of the state. -/
theorem SameEncoder.effect (h : SameEncoder s t) (i : Instr) : SameEncoder (effect i s) (effect i t) := by
  cases i with
  | encPush _ | encFinish _ => constructor <;> simp [Machine.effect, h.encAcc, h.maskMode, h.tx]
  | encInit _ => exact { h with encAcc := rfl }
  | cfg _ => exact { h with maskMode := rfl }
  | sreset _ => exact { h with encAcc := rfl, maskMode := rfl }
  | _ => exact { h with }

theorem SameEncoder.after (h : SameEncoder s t) (i : Instr) : SameEncoder (s.after i) (t.after i) := by
  simp only [State.after, h.maskMode]
  cases commandError t.maskMode i with
  | some c => exact h.raise c
  | none => exact h.effect i

/-- A decoder command changes nothing of the encoder's half. -/
theorem sameEncoder_after_of_isDecoder (hi : i.isDecoder = true) (s : State) : SameEncoder (s.after i) s := by
  obtain ⟨c, -, after⟩ | ⟨-, after⟩ := exec_cases (exec_eq_after i s)
  · rw [after]; constructor <;> simp
  · rw [after]
    cases i with
    | decInit _ | decPush _ | decCheck _ | lookup _ => constructor <;> rfl
    | _ => cases hi

theorem SameDecoder.raise (h : SameDecoder s t) (c : CmdError) : SameDecoder (s.raise c) (t.raise c) := by
  obtain ⟨_, _, _, _, _, _, _, _, _, _, _⟩ := h
  constructor <;> simp [*]

theorem SameDecoder.acceptChar (h : SameDecoder s t) (c : Char7) : SameDecoder (s.acceptChar c) (t.acceptChar c) := by
  obtain ⟨_, _, _, _, _, _, _, _, _, _, _⟩ := h
  constructor <;> simp [*]

theorem SameDecoder.verdict (h : SameDecoder s t) : s.verdict = t.verdict :=
  State.verdict_congr h.decAcc h.decH1 h.decH0 h.decFirst h.decCnt h.decOvf h.expValid h.expMark h.expLen

/-- The decoder's half of an effect is a function of the decoder's half of the state. -/
theorem SameDecoder.effect (h : SameDecoder s t) (i : Instr) : SameDecoder (effect i s) (effect i t) := by
  cases i with
  | decInit _ | sreset _ => constructor <;> simp [Machine.effect, h.rx]
  | decPush d => exact h.acceptChar (unpack d)
  | decCheck _ => exact { h with statusLow := h.verdict }
  | _ => exact { h with }

/-- The mask mode decides about encoder commands only (R122, R124). -/
theorem commandError_of_not_isEncoder (hi : i.isEncoder = false) (m m' : MaskMode) :
    commandError m i = commandError m' i := by
  cases i with
  | encPush _ | pack _ => cases hi
  | _ => rfl

theorem SameDecoder.after (h : SameDecoder s t) (hi : i.isEncoder = false) : SameDecoder (s.after i) (t.after i) := by
  rw [State.after, State.after, commandError_of_not_isEncoder hi s.maskMode t.maskMode]
  cases commandError t.maskMode i with
  | some c => exact h.raise c
  | none => exact h.effect i

/-- An encoder command changes nothing of the decoder's half. -/
theorem sameDecoder_after_of_isEncoder (hi : i.isEncoder = true) (s : State) : SameDecoder (s.after i) s := by
  obtain ⟨c, -, after⟩ | ⟨-, after⟩ := exec_cases (exec_eq_after i s)
  · rw [after]; constructor <;> simp
  · rw [after]
    cases i with
    | encInit _ | encPush _ | encFinish _ | pack _ => constructor <;> rfl
    | _ => cases hi

end

/-- Two runs stay related when one of them leaves commands out: the commands in both keep the relation, and so does a
command in the first only. -/
theorem foldl_after_filter_rel {R : State → State → Prop} {keep : Instr → Bool}
    (kept : ∀ i s t, keep i = true → R s t → R (s.after i) (t.after i))
    (dropped : ∀ i s t, keep i = false → R s t → R (s.after i) t) (is : List Instr) {s t : State} (h : R s t) :
    R (is.foldl State.after s) ((is.filter keep).foldl State.after t) := by
  induction is generalizing s t with
  | nil => exact h
  | cons i is ih =>
    cases hi : keep i with
    | true => simpa [hi] using ih (kept i s t hi h)
    | false => simpa [hi] using ih (dropped i s t hi h)

/-- Settles O36: each half is kept equal by a command of the other half that one run leaves out, and by every command
that both runs take (`foldl_after_filter_rel`). -/
theorem encoderAndDecoderAreIndependent : Obligations.EncoderAndDecoderAreIndependent := by
  intro is s
  refine ⟨_, _, _, runCommands_eq_foldl is s, runCommands_eq_foldl _ s, ?encoder, runCommands_eq_foldl _ s, ?decoder⟩
  case encoder =>
    refine foldl_after_filter_rel (fun i _ _ _ h => h.after i) (fun i s _ hi h => ?_) is (.refl s)
    exact (sameEncoder_after_of_isDecoder (by simpa using hi) s).trans h
  case decoder =>
    refine foldl_after_filter_rel (fun _ _ _ hi h => h.after (by simpa using hi)) (fun i s _ hi h => ?_) is (.refl s)
    exact (sameDecoder_after_of_isEncoder (by simpa using hi) s).trans h

end Sys2Proof.Machine
end

section
/-!
PROOFS. The statements about the encoding (spec/30_encoding.md): decode and encode, the accepted words, the outcome of each
word, the hex digits, CFG, and the assembler's texts.
-/

namespace Sys2Proof.Machine

/-! ### Decode and encode (R70, R73, R90) -/

theorem opcodeField_append_dataField (w : CmdWord) : w.extractLsb' 8 4 ++ dataField w = w :=
  (BitVec.extractLsb'_append_extractLsb'_eq_extractLsb' rfl).trans BitVec.extractLsb'_eq_self

theorem eq_append_bits : ∀ op : BitVec 4,
    op = BitVec.ofBool op[3] ++ BitVec.ofBool op[2] ++ BitVec.ofBool op[1] ++ BitVec.ofBool op[0] := by decide

/-- The arm that the decoder takes is that of the four bits of `OP`. -/
theorem opcode_decode (w : CmdWord) : opcode (decode w) = w.extractLsb' 8 4 := by
  rw [eq_append_bits (w.extractLsb' 8 4)]
  simp only [BitVec.getElem_extractLsb', Nat.reduceAdd]
  unfold decode
  split <;> simp [*, opcode]

theorem data_decode (w : CmdWord) : (decode w).data = dataField w := by
  unfold decode
  split <;> rfl

theorem encode_decode (w : CmdWord) : encode (decode w) = w := by
  rw [encode, opcode_decode, data_decode, opcodeField_append_dataField]

theorem encode_surjective (w : CmdWord) : ∃ i, encode i = w := ⟨decode w, encode_decode w⟩

/-- Settles O10: the fields of a word are those of its command, in both directions. -/
theorem decodeAndEncodeAgree : Obligations.DecodeAndEncodeAgree := ⟨decode_encode, encode_decode⟩

/-- Settles O11: each word is the word of its command (`decode_encode`). -/
theorem opcodeMapWordsDecode : Obligations.OpcodeMapWordsDecode := by
  refine ⟨fun d => ⟨decode_encode (.nop d), decode_encode (.encInit d), decode_encode (.encPush d),
    decode_encode (.encFinish d), decode_encode (.decInit d), decode_encode (.decPush d), decode_encode (.decCheck d),
    decode_encode (.pack d), decode_encode (.lookup d), decode_encode (.cfg d), decode_encode (.clrerr d),
    decode_encode (.reservedB d), decode_encode (.reservedC d), decode_encode (.reservedD d),
    decode_encode (.reservedE d), decode_encode (.sreset d)⟩, ?examples⟩
  case examples => decide

/-! ### The accepted words (R75, R76) -/

theorem sevenBitError_eq_none {m : MaskMode} {d : Byte} : sevenBitError m d = none ↔ m = .mask ∨ d[7] = false := by
  cases m <;> simp [sevenBitError]

theorem cfgError_eq_none : ∀ d : Byte, cfgError d = none ↔ d = 0x00 ∨ d = 0x01 := by decide

/-- The letters of the reply table, and 0x00 for raw mode, are the seven legal DEC_INIT values. -/
theorem commandError_decInit_eq_none (m : MaskMode) :
    ∀ d : Byte, commandError m (.decInit d) = none ↔ d ∈ legalDecInitData := by
  cases m <;> decide

theorem zeroData_eq_none {d : Byte} : zeroData d = none ↔ d = 0x00 := by simp [zeroData]

theorem decInitIllFormed_eq_none {d : Byte} : illFormed (.decInit d) = none ↔ d ∈ legalDecInitData := by
  simp [illFormed]

theorem cfgIllFormed_eq_none {d : Byte} : illFormed (.cfg d) = none ↔ d = 0x00 ∨ d = 0x01 := by
  simp [illFormed, or_iff_not_imp_left]

/-- `MASK` accepts every data byte of ENC_PUSH and PACK, so there legality does not depend on the mode. -/
theorem wellFormed_iff_accepted_mask (i : Instr) : WellFormed i ↔ Accepted .mask i := by
  cases i with
  | nop | encInit | encFinish | decCheck | clrerr | sreset => exact zeroData_eq_none.trans zeroDataError_eq_none.symm
  | encPush | pack => exact iff_of_true rfl (sevenBitError_eq_none.mpr (.inl rfl))
  | decInit d => exact decInitIllFormed_eq_none.trans (commandError_decInit_eq_none .mask d).symm
  | cfg d => exact cfgIllFormed_eq_none.trans (cfgError_eq_none d).symm
  | decPush | lookup => exact iff_of_true rfl rfl
  | reservedB | reservedC | reservedD | reservedE => exact iff_of_false nofun nofun

theorem toNat_encode (i : Instr) : (encode i).toNat = (opcode i).toNat * 256 + i.data.toNat := by
  rw [encode, BitVec.toNat_append]
  have := i.data.isLt
  rw [← Nat.shiftLeft_add_eq_or_of_lt this, Nat.shiftLeft_eq]

theorem encode_bit_seven (i : Instr) : (encode i)[7] = i.data[7] := BitVec.getElem_append _

/-- Settles O12, command by command: each data rule as a range of the number that the word is (`toNat_encode`). -/
theorem acceptedWordsAreTheCountedOnes : Obligations.AcceptedWordsAreTheCountedOnes := by
  refine ⟨fun m w => ?_, wellFormed_iff_accepted_mask⟩
  obtain ⟨i, rfl⟩ := encode_surjective w
  have byte := i.data.isLt
  simp only [decode_encode, encode_bit_seven, List.mem_cons, List.not_mem_nil, or_false, BitVec.le_def, ← BitVec.toNat_inj,
    BitVec.reduceToNat, toNat_encode]
  cases i with
  | nop d | encInit d | encFinish d | decCheck d | clrerr d | sreset d =>
    simp only [Accepted, commandError, zeroDataError_eq_none, opcode, Instr.data, ← BitVec.toNat_inj,
      BitVec.reduceToNat] at byte ⊢
    omega
  | encPush d | pack d =>
    simp only [Accepted, commandError, sevenBitError_eq_none, opcode, Instr.data, BitVec.reduceToNat] at byte ⊢
    by_cases legal : m = .mask ∨ d[7] = false
    · simp only [legal, and_true, true_iff]
      omega
    · simp only [legal, and_false, or_false, false_iff]
      omega
  | decInit d =>
    simp only [Accepted, commandError_decInit_eq_none, legalDecInitData, List.mem_cons, List.not_mem_nil, or_false,
      opcode, Instr.data, ← BitVec.toNat_inj, BitVec.reduceToNat] at byte ⊢
    omega
  | cfg d =>
    simp only [Accepted, commandError, cfgError_eq_none, opcode, Instr.data, ← BitVec.toNat_inj,
      BitVec.reduceToNat] at byte ⊢
    omega
  | decPush d | lookup d =>
    simp only [Accepted, commandError, true_iff, opcode, Instr.data, BitVec.reduceToNat] at byte ⊢
    omega
  | reservedB d | reservedC d | reservedD d | reservedE d =>
    simp only [Accepted, commandError, reduceCtorEq, false_iff, opcode, Instr.data, BitVec.reduceToNat] at byte ⊢
    omega

/-! ### One outcome per word (R75) -/

theorem exec_accepted_or_errorRecorded (i : Instr) (s : State) :
    (Accepted s.maskMode i ∧ ∃ t, exec i s = .next t)
      ∨ ∃ c, commandError s.maskMode i = some c ∧ exec i s = .next (s.errorRecorded c.code) := by
  cases h : commandError s.maskMode i with
  | none => exact .inl ⟨h, _, exec_accepted h⟩
  | some c => exact .inr ⟨c, rfl, by rw [exec_failing h, raise_eq_errorRecorded]⟩

theorem commandError_of_reservedWord (m : MaskMode) {i : Instr} (low : 0xB00 ≤ encode i) (high : encode i ≤ 0xEFF) :
    commandError m i = some .reservedOp := by
  have byte := i.data.isLt
  rw [BitVec.le_def, toNat_encode] at low high
  cases i with
  | reservedB | reservedC | reservedD | reservedE => rfl
  | _ =>
    simp only [opcode, Instr.data, BitVec.reduceToNat] at byte low high
    omega

theorem ne_allOnes_of_resultShape {r : BitVec 16} (h : ResultShape r) : r ≠ 0xFFFF := by
  rintro rfl
  revert h
  unfold ResultShape
  decide

/-- States in which every command changes something, but for NOP 0x00 and the CFG that sets the mode they have. -/
def State.busy (m : MaskMode) : State :=
  { State.reset with encAcc := 0x01, decCnt := 1, errMore := true, result := 0xFFFF, maskMode := m }

theorem accepted_of_after_eq {i : Instr} {s : State} (noCause : s.errCause = 0) (h : s.after i = s) :
    Accepted s.maskMode i ∧ effect i s = s := by
  obtain ⟨c, -, raised⟩ | ⟨accepted, effected⟩ := exec_cases (exec_eq_after i s)
  · have code := congrArg State.errCause (raised.symm.trans h)
    rw [State.raise_errCause, if_pos noCause, noCause] at code
    exact absurd code c.code_ne_zero
  · exact ⟨accepted, effected.symm.trans h⟩

/-- NOP 0x00 alone does nothing in both of the states `State.busy`. -/
theorem eq_nop_of_after_eq {i : Instr} (h : ∀ m, (State.busy m).after i = State.busy m) : i = .nop 0x00 := by
  obtain ⟨accepted, same⟩ := accepted_of_after_eq rfl (h .mask)
  obtain ⟨-, same'⟩ := accepted_of_after_eq rfl (h .reject)
  cases i with
  | nop d => rw [zeroDataError_eq_none.mp accepted]
  | encInit | sreset => exact absurd (show (0 : Char7) = 1 from congrArg State.encAcc same) (by decide)
  | encPush | encFinish => exact absurd (congrArg State.tx same) (by simp [effect])
  | decInit => exact absurd (show (0 : BitVec 8) = 1 from congrArg State.decCnt same) (by decide)
  | decPush => exact absurd (congrArg State.rx same) (by simp [effect])
  | decCheck =>
    exact absurd (show (State.busy .mask).verdict = 0 from congrArg State.statusLow same) (by decide)
  | pack d => exact absurd (congrArg State.result same) (ne_allOnes_of_resultShape (resultShape_pack (unpack d)))
  | lookup d => exact absurd (congrArg State.result same) (ne_allOnes_of_resultShape (resultShape_lookup d))
  | cfg d =>
    have mask : cfgMode d = .mask := congrArg State.maskMode same
    have reject : cfgMode d = .reject := congrArg State.maskMode same'
    rw [mask] at reject
    cases reject
  | clrerr => exact absurd (show false = true from congrArg State.errMore same) (by decide)
  | reservedB | reservedC | reservedD | reservedE => cases accepted

/-- Settles O13: a word that does nothing does nothing in the two states `State.busy` either (`eq_nop_of_after_eq`). -/
theorem everyWordIsAcceptedOrOneError : Obligations.EveryWordIsAcceptedOrOneError := by
  refine ⟨fun w => exec_accepted_or_errorRecorded (decode w), fun w m low high => ?reserved,
    fun w => ⟨fun idle => ?only, ?nop⟩⟩
  case reserved => exact commandError_of_reservedWord m (by rwa [encode_decode]) (by rwa [encode_decode])
  case only =>
    have nop : decode w = .nop 0x00 := eq_nop_of_after_eq fun m => by simpa [exec_eq_after] using idle (State.busy m)
    rw [← encode_decode w, nop]
    rfl
  case nop =>
    rintro rfl s
    rfl

/-! ### The machine goes on (R75, R190, R192) -/

theorem continues_step (s : State) : Continues (step s) := by
  unfold step
  split
  · exact ⟨_, rfl⟩
  · exact ⟨_, exec_eq_after _ _⟩
  · exact ⟨_, rfl⟩

/-- Settles O18: a command answers the state after it, and so does a list (`exec_eq_after`, `runCommands_eq_foldl`). -/
theorem machineAlwaysContinues : Obligations.MachineAlwaysContinues :=
  ⟨continues_step, fun i s => ⟨_, exec_eq_after i s⟩, fun is s => ⟨_, runCommands_eq_foldl is s⟩⟩

/-! ### The word placed for the next step (R56, R70) -/

/-- Settles O16: the low `nbits` bits of a command word are the whole word, for `nbits` of twelve or more. -/
theorem placedWordIsRunNext : Obligations.PlacedWordIsRunNext := by
  intro s nbits w wide command
  have whole : w % 2 ^ nbits = w :=
    Nat.mod_eq_of_lt (command.trans_le (Nat.pow_le_pow_right (by decide : 0 < 2) wide))
  refine ⟨?step, ?table⟩
  case step => exact (step_command rfl).trans (by rw [whole]; rfl)
  case table => simp [decodeTableWord, decodeNat, whole, command]

/-! ### CFG (R86, R172) -/

/-- Settles O32: the two accepted values compute, and any other records its error (`exec_failing`). -/
theorem cfgSetsTheMaskMode : Obligations.CfgSetsTheMaskMode := by
  refine fun s => ⟨rfl, rfl, fun d reserved => ?_⟩
  have failing : commandError s.maskMode (.cfg d) = some .reservedField := if_pos reserved
  rw [exec_failing failing, raise_eq_errorRecorded]
  rfl

/-! ### Hex digits (R82, R106) -/

theorem hexd_injective : ∀ m n : BitVec 4, hexd m = hexd n → m = n := by decide

theorem hexd_image :
    ∀ c : Char7, (∃ n, hexd n = c) ↔ (0x30 ≤ c ∧ c ≤ 0x39) ∨ (0x41 ≤ c ∧ c ≤ 0x46) := by decide

theorem hex2_eq (a : Char7) :
    hex2 a = (hexd (BitVec.ofNat 4 (a.toNat / 16)), hexd (BitVec.ofNat 4 (a.toNat % 16))) := by
  have high : (a.extractLsb' 4 3).setWidth 4 = BitVec.ofNat 4 (a.toNat / 16) := by
    apply BitVec.eq_of_toNat_eq
    simp only [BitVec.toNat_setWidth, BitVec.extractLsb'_toNat, BitVec.toNat_ofNat, Nat.shiftRight_eq_div_pow]
    omega
  have low : a.extractLsb' 0 4 = BitVec.ofNat 4 (a.toNat % 16) := by
    apply BitVec.eq_of_toNat_eq
    simp
  rw [hex2, high, low]

theorem hex2_high_bounds : ∀ a : Char7, 0x30 ≤ (hex2 a).1 ∧ (hex2 a).1 ≤ 0x37 := by decide

/-- Settles O6: the digit table is a closed fact, and the digits of a checksum are those of its number (`hex2_eq`). -/
theorem hexDigitsAreUppercase : Obligations.HexDigitsAreUppercase :=
  ⟨by decide, hexd_injective, hexd_image, fun a => ⟨hex2_eq a, hex2_high_bounds a⟩⟩

/-! ### The parts of a line (R90) -/

/-- A character that neither quotes nor starts a comment. -/
abbrev IsPlainChar (c : Char) : Prop := c ≠ '"' ∧ c ≠ '\'' ∧ c ≠ ';'

theorem stripComment_plain_cons {c : Char} (h : IsPlainChar c) (inString : Bool) (cs : List Char) :
    stripComment inString (c :: cs) = c :: stripComment inString cs := by
  obtain ⟨noQuote, noLiteral, noComment⟩ := h
  rw [stripComment]
  · simp [noComment]
  · exact noQuote
  · exact fun _ _ h => absurd h noLiteral

theorem stripComment_plain {cs : List Char} (h : ∀ c ∈ cs, IsPlainChar c) (inString : Bool) (rest : List Char) :
    stripComment inString (cs ++ rest) = cs ++ stripComment inString rest := by
  induction cs with
  | nil => rfl
  | cons c cs ih =>
    obtain ⟨hc, hcs⟩ := List.forall_mem_cons.mp h
    rw [List.cons_append, stripComment_plain_cons hc, ih hcs, List.cons_append]

/-- Inside a string all is kept up to the closing quote, semicolons and literals included. -/
theorem stripComment_string {m : List Char} (h : ∀ c ∈ m, c ≠ '"') : stripComment true (m ++ ['"']) = m ++ ['"'] := by
  generalize string : true = b
  generalize text : m ++ ['"'] = t
  fun_induction stripComment b t generalizing m with
  | case1 => rfl
  | case2 b cs ih =>
    cases m with
    | nil => cases text; rfl
    | cons c m => cases text; simp at h
  | case3 b c cs ih =>
    match m with
    | [] | [_] | [_, _] => cases text
    | _ :: _ :: _ :: m =>
      cases text
      rw [ih (by simp_all) string rfl]
  | case4 b c cs noQuote noLiteral comment => simp [← string] at comment
  | case5 b c cs noQuote noLiteral noComment ih =>
    cases m with
    | nil => cases text; exact absurd rfl noQuote
    | cons c m => cases text; rw [ih (List.forall_mem_cons.mp h).2 string rfl]

theorem trim_eq_self {a z : Char} (ha : isBlankChar a = false) (hz : isBlankChar z = false) (cs : List Char) :
    trim (a :: (cs ++ [z])) = a :: (cs ++ [z]) := by
  simp [trim, ha, hz]

theorem trim_space_cons (cs : List Char) : trim (' ' :: cs) = trim cs := by
  simp [trim, isBlankChar]

/-- A word that can name an operation with an operand: neither a quote, a semicolon nor a blank stands in it, and it names
no operation without one. -/
abbrev IsOperandName (name : List Char) : Prop :=
  name ≠ [] ∧ name.all (fun c => decide (IsPlainChar c) && !isBlankChar c) = true ∧ plainCommand name = none

/-- A name and its operand, one space between them, nothing before or after them and nothing lost to a comment. -/
theorem assembleLine_operand {name cs : List Char} {a z : Char} (h : IsOperandName name) (ha : isBlankChar a = false)
    (hz : isBlankChar z = false) (kept : stripComment false (a :: (cs ++ [z])) = a :: (cs ++ [z])) :
    assembleLine (name ++ ' ' :: a :: (cs ++ [z])) = operandCommand name (a :: (cs ++ [z])) := by
  obtain ⟨named, nameChars, notPlain⟩ := h
  simp only [List.all_eq_true, Bool.and_eq_true, decide_eq_true_eq] at nameChars
  have plain : ∀ c ∈ name, IsPlainChar c := fun c hc => (nameChars c hc).1
  have word : ∀ c ∈ name, (!isBlankChar c) = true := fun c hc => (nameChars c hc).2
  obtain ⟨n, ns, rfl⟩ := List.exists_cons_of_ne_nil named
  have keptLine : stripComment false (n :: ns ++ ' ' :: a :: (cs ++ [z])) = n :: ns ++ ' ' :: a :: (cs ++ [z]) := by
    rw [stripComment_plain plain, stripComment_plain_cons (by decide), kept]
  have trimmed : trim (n :: ns ++ ' ' :: a :: (cs ++ [z])) = n :: ns ++ ' ' :: a :: (cs ++ [z]) := by
    simpa using trim_eq_self (by simpa using word n List.mem_cons_self) hz (ns ++ ' ' :: a :: cs)
  have space : isBlankChar ' ' = true := by decide
  rw [assembleLine, keptLine, trimmed, List.takeWhile_append_of_pos word, List.dropWhile_append_of_pos word]
  simp [space, trim_space_cons, trim_eq_self ha hz, notPlain]

/-! ### A rendered byte (R82, R90) -/

/-- The character of a hex digit in a rendered byte. -/
def digitChar (n : BitVec 4) : Char := Char.ofNat (hexd n).toNat

theorem digitValue_digitChar : ∀ n : BitVec 4, digitValue (digitChar n) = some n.toNat := by decide

theorem isBlankChar_digitChar : ∀ n : BitVec 4, isBlankChar (digitChar n) = false := by decide

theorem isPlainChar_digitChar : ∀ n : BitVec 4, IsPlainChar (digitChar n) := by decide

theorem renderByte_eq (d : Byte) :
    renderByte d = ['0', 'x', digitChar (d.extractLsb' 4 4), digitChar (d.extractLsb' 0 4)] := rfl

theorem readDigits_digitChars (high low : BitVec 4) :
    readDigits 16 0 [digitChar high, digitChar low] = some (high.toNat * 16 + low.toNat) := by
  simp [readDigits, digitValue_digitChar, high.isLt, low.isLt]

theorem readOperand_renderByte (d : Byte) : readOperand (renderByte d) = .ok d := by
  have value : (d.extractLsb' 4 4).toNat * 16 + (d.extractLsb' 0 4).toNat = d.toNat := by
    have := d.isLt
    simp only [BitVec.extractLsb'_toNat, Nat.shiftRight_eq_div_pow]
    omega
  rw [renderByte_eq, readOperand, readDigits_digitChars, value, byteOperand, if_pos d.isLt, BitVec.ofNat_toNat,
    BitVec.setWidth_eq]

theorem stripComment_renderByte (d : Byte) : stripComment false (renderByte d) = renderByte d := by
  have plain : ∀ c ∈ renderByte d, IsPlainChar c := by
    simp only [renderByte_eq, List.forall_mem_cons]
    exact ⟨by decide, by decide, isPlainChar_digitChar _, isPlainChar_digitChar _, nofun⟩
  simpa [stripComment] using stripComment_plain plain false []

/-! ### The text of a command (R90) -/

/-- A name whose operand is a data byte, and the byte as `renderByte` writes it. -/
theorem assembleLine_renderByte (name : String) {command : Byte → Instr} {d : Byte} (h : IsOperandName name.toList)
    (meaning : operandCommand name.toList (renderByte d) = withOperand command (readOperand (renderByte d))) :
    assembleLine (name.toList ++ ' ' :: renderByte d) = .ok [command d] := by
  have line := assembleLine_operand (cs := ['x', digitChar _]) h (by decide) (isBlankChar_digitChar _)
    (stripComment_renderByte d)
  exact line.trans (meaning.trans (by rw [readOperand_renderByte, withOperand]))

theorem assembleLine_of_render {i : Instr} {text : List Char} (h : render i = some text) : assembleLine text = .ok [i] := by
  cases i with
  | nop | encInit | encFinish | decCheck | clrerr | sreset =>
    simp only [render, Option.ite_none_right_eq_some, Option.some.injEq] at h
    obtain ⟨rfl, rfl⟩ := h
    rfl
  | encPush d =>
    cases h
    exact assembleLine_renderByte "ENC_PUSH" (by decide) rfl
  | decInit d =>
    cases h
    exact assembleLine_renderByte "DEC_INIT" (by decide) rfl
  | decPush d =>
    cases h
    exact assembleLine_renderByte "DEC_PUSH" (by decide) rfl
  | pack d =>
    cases h
    exact assembleLine_renderByte "PACK" (by decide) rfl
  | lookup d =>
    cases h
    exact assembleLine_renderByte "LOOKUP" (by decide) rfl
  | cfg d =>
    cases h
    exact assembleLine_renderByte "CFG" (by decide) rfl
  | reservedB | reservedC | reservedD | reservedE => cases h

theorem isSome_render_of_accepted {m : MaskMode} {i : Instr} (h : Accepted m i) : (render i).isSome = true := by
  cases i with
  | nop | encInit | encFinish | decCheck | clrerr | sreset =>
    rw [zeroDataError_eq_none.mp h]
    rfl
  | encPush | decInit | decPush | pack | lookup | cfg => rfl
  | reservedB | reservedC | reservedD | reservedE => cases h

theorem assembleLines_singleton {line : List Char} {is : List Instr} (h : assembleLine line = .ok is) :
    assembleLines [line] = .ok (is.map encode) := by
  simp [assembleLines, h]

/-- Settles O52: the text of a command is its name, and its data field where the name takes one
(`assembleLine_of_render`). -/
theorem assemblingTheTextGivesTheCommand : Obligations.AssemblingTheTextGivesTheCommand :=
  ⟨fun _ _ h => ⟨assembleLine_of_render h, assembleLines_singleton (assembleLine_of_render h)⟩,
    fun _ _ => isSome_render_of_accepted⟩

/-! ### The line of ENCODE (R91) -/

theorem readString_closed {m : List Char} (h : ∀ c ∈ m, c.toNat < 128 ∧ c ≠ '"') :
    readString (m ++ ['"']) = .ok (m.map fun c => BitVec.ofNat 8 c.toNat) := by
  induction m with
  | nil => rfl
  | cons c m ih =>
    obtain ⟨⟨sevenBit, noQuote⟩, later⟩ := List.forall_mem_cons.mp h
    simp [readString, noQuote, sevenBit, ih later]

/-- Settles O53: the string reaches its reader whole (`stripComment_string`), and the reader takes its characters. -/
theorem encodeLineExpands : Obligations.EncodeLineExpands := by
  intro m h
  have kept : stripComment false ('"' :: (m ++ ['"'])) = '"' :: (m ++ ['"']) :=
    congrArg _ (stripComment_string fun c hc => (h c hc).2)
  have operand : operandCommand "ENCODE".toList ('"' :: (m ++ ['"']))
      = .ok (Pseudo.encode (m.map fun c => BitVec.ofNat 8 c.toNat)).expand := by
    simp [operandCommand, readString_closed h]
  have line := (assembleLine_operand (by decide) (by decide) (by decide) kept).trans operand
  simpa [Pseudo.expand, Function.comp_def] using line

end Sys2Proof.Machine
end

section
/-!
PROOFS. The statements about the codec functions (spec/40_codec_functions.md): parity and packing, the checksum and the frame,
the errors the checksum detects, and the round trip, for the source's whole strings and over the two halves of the FCB.
-/

namespace Sys2Proof.Machine

/-! ### Parity and packing (R100 to R105) -/

theorem xor7_iff_odd : ∀ v : Char7, xor7 v = true ↔ oneBits (v.setWidth 8) % 2 = 1 := by decide

/-- Settles O1: the fold is written as the XOR, and is compared with the count at each of the 128 characters. -/
theorem xorFoldIsOneForOddlyManyOneBits : Obligations.XorFoldIsOneForOddlyManyOneBits :=
  ⟨fun v => ⟨rfl, xor7_iff_odd v⟩, rfl, rfl⟩

/-- The fold is linear. -/
theorem xor7_xor (v w : Char7) : xor7 (v ^^^ w) = (xor7 v ^^ xor7 w) := by
  simp [xor7, Bool.xor_left_comm]

theorem xor7_single_bit : ∀ i < 7, xor7 (1#7 <<< i) = true := by decide

theorem xor7_flip (v : Char7) {i : Nat} (hi : i < 7) : xor7 (v ^^^ (1#7 <<< i)) = !xor7 v := by
  simp [xor7_xor, xor7_single_bit i hi]

/-- Settles O2: the fold is linear and is 1 at a single bit (`xor7_flip`). -/
theorem flippingOneDataBitFlipsTheParityBit : Obligations.FlippingOneDataBitFlipsTheParityBit := by
  refine ⟨fun v i hi => ⟨xor7_flip v hi, ?pbit⟩, fun v => ⟨rfl, rfl, oddParity_pack_odd v⟩⟩
  case pbit =>
    intro p
    cases p <;> simp [pbit, xor7_flip v hi]

theorem pack_bit_seven (p : ParitySense) (v : Char7) : (pack p v)[7] = pbit p v :=
  (BitVec.getElem_append _).trans (by simp)

theorem pack_getLsbD_low (p : ParitySense) (v : Char7) {i : Nat} (hi : i < 7) :
    (pack p v).getLsbD i = v.getLsbD i :=
  BitVec.getLsbD_append.trans (if_pos hi)

/-- Settles O3, bit by bit. -/
theorem packCarriesParityInBitSeven : Obligations.PackCarriesParityInBitSeven :=
  ⟨fun p v => ⟨pack_bit_seven p v, fun _ => pack_getLsbD_low p v⟩, oddParity_pack_odd, by decide⟩

/-- The two senses differ in bit 7 and in nothing else. -/
theorem pack_evenLiteral (v : Char7) : pack .evenLiteral v = pack .odd v ^^^ 0x80 := by
  have inverted : ∀ b : Bool, BitVec.ofBool b = BitVec.ofBool (!b) ^^^ 1#1 := by decide
  calc pack .evenLiteral v
    _ = (BitVec.ofBool (!xor7 v) ^^^ 1#1) ++ (v ^^^ 0#7) := by rw [← inverted, BitVec.xor_zero]; rfl
    _ = pack .odd v ^^^ (1#1 ++ 0#7) := BitVec.xor_append.symm

/-- Settles O4: the table is compared entry by entry. -/
theorem packAgreesWithTheTable : Obligations.PackAgreesWithTheTable := by
  refine fun v => ⟨?entry, pack_evenLiteral v⟩
  case entry =>
    revert v
    decide

@[simp] theorem unpack_pack (p : ParitySense) (v : Char7) : unpack (pack p v) = v :=
  BitVec.extractLsb'_append_eq_right

@[simp] theorem unpack_flip_bit_seven (b : Byte) : unpack (b ^^^ 0x80#8) = unpack b := by
  simp [unpack_eq_setWidth, BitVec.setWidth_xor]

/-- Settles O5: bit 7 is the part that `unpack` does not extract. -/
theorem unpackDiscardsBitSeven : Obligations.UnpackDiscardsBitSeven :=
  ⟨fun b => ⟨by simp [unpack_eq_setWidth], unpack_flip_bit_seven b⟩, unpack_pack⟩

/-! ### The checksum and the frame (R107) -/

theorem unpack_eq_and (c : Byte) : unpack c = (c &&& 0x7F).setWidth 7 := by
  rw [unpack_eq_setWidth, BitVec.setWidth_and]
  exact BitVec.and_allOnes.symm

theorem xorAll_perm {as bs : List Char7} (h : as.Perm bs) : xorAll as = xorAll bs := by
  induction h with
  | nil => rfl
  | cons c _ ih => rw [xorAll_cons, xorAll_cons, ih]
  | swap c d cs => simp only [xorAll_cons]; ac_rfl
  | trans _ _ ih ih' => exact ih.trans ih'

theorem csum_perm {s t : List Byte} (h : s.Perm t) : csum s = csum t := xorAll_perm (h.map unpack)

theorem csum_replicate_even (c : Byte) (k : Nat) : csum (List.replicate (2 * k) c) = 0 := by
  induction k with
  | zero => rfl
  | succ k ih => simp [Nat.mul_succ, List.replicate_succ, ih]

theorem encodeFrame_eq (p : ParitySense) (s : List Byte) :
    encodeFrame p s
      = s.map (fun c => pack p (unpack c)) ++ [pack p (hex2 (csum s)).1, pack p (hex2 (csum s)).2] := by
  simp [encodeFrame, framedString, checkDigits]

@[simp] theorem encodeFrame_length (p : ParitySense) (s : List Byte) : (encodeFrame p s).length = s.length + 2 := by
  simp [encodeFrame]

/-- Settles O7: XOR is commutative and associative, and each character is its own inverse. -/
theorem checksumIgnoresOrderAndPairs : Obligations.ChecksumIgnoresOrderAndPairs := by
  refine ⟨rfl, fun c s => ?cons, fun _ _ => csum_perm, fun c k s => ?pairs,
    fun p s => ⟨encodeFrame_eq p s, encodeFrame_length p s⟩⟩
  case cons => rw [csum_cons, unpack_eq_and]
  case pairs => simp [csum_append, csum_replicate_even]

/-! ### Decoding (R108, R109) -/

/-- `decode` reads only the characters of what it is given. -/
theorem decodeFrame_congr {r r' : List Byte} (h : r.map unpack = r'.map unpack) : decodeFrame r = decodeFrame r' := by
  simp only [decodeFrame, h]

theorem decodeFrame_short {r : List Byte} (h : r.length < 3) : decodeFrame r = .invalid := by
  simp [decodeFrame, h]

/-- What `decode` answers on three characters or more: the verdict on the last two against the others. -/
theorem decodeFrame_of_append_pair {r : List Byte} {cs : List Char7} {h1 h0 : Char7}
    (h : r.map unpack = cs ++ [h1, h0]) (ne : cs ≠ []) :
    decodeFrame r = if checkDigits (xorAll cs) = [h1, h0] then .ok (cs ++ [h1, h0]) else .checksumError := by
  have long : ¬ cs.length + 2 < 3 := by
    have := List.length_pos_iff.mpr ne
    omega
  simp [decodeFrame, h, long]

/-- What `decode` answers on the characters of a message and the digits of any checksum. -/
theorem decodeFrame_of_digits {r m : List Byte} {a : Char7} (h : r.map unpack = m.map unpack ++ checkDigits a)
    (ne : m ≠ []) :
    decodeFrame r = if csum m = a then .ok (m.map unpack ++ checkDigits a) else .checksumError := by
  have digits : checkDigits (csum m) = checkDigits a ↔ csum m = a := ⟨checkDigits_injective _ _, congrArg _⟩
  rw [decodeFrame_of_append_pair h (by simpa using ne)]
  exact ite_congr (propext digits) (fun _ => rfl) (fun _ => rfl)

@[simp] theorem map_unpack_encodeFrame (p : ParitySense) (m : List Byte) :
    (encodeFrame p m).map unpack = m.map unpack ++ checkDigits (csum m) := by
  simp [encodeFrame, framedString, Function.comp_def]

theorem decodeFrame_encodeFrame (p : ParitySense) {m : List Byte} (ne : m ≠ []) :
    decodeFrame (encodeFrame p m) = .ok (m.map unpack ++ checkDigits (csum m)) := by
  rw [decodeFrame_of_digits (map_unpack_encodeFrame p m) ne, if_pos rfl]

theorem decodeFrame_encodeFrame_nil (p : ParitySense) : decodeFrame (encodeFrame p []) = .invalid :=
  decodeFrame_short (by simp)

/-- Settles O8: `decode` sees the message's characters and the digits of its own checksum. -/
theorem frameRoundTrip : Obligations.FrameRoundTrip := fun p =>
  ⟨fun _ => decodeFrame_encodeFrame p, encodeFrame_length p [], decodeFrame_encodeFrame_nil p⟩

/-! ### Errors on the wire (R110) -/

theorem csum_changed_character (a b : List Byte) {c w : Byte} {e : Char7} (h : unpack w = unpack c ^^^ e) :
    csum (a ++ w :: b) = csum (a ++ c :: b) ^^^ e := by
  simp only [csum_append, csum_cons, h]
  ac_rfl

/-- A character of a message changed on the wire: the receiver sees the changed message and the old digits. -/
theorem map_unpack_set_encodeFrame (p : ParitySense) (a b : List Byte) (c w : Byte) :
    ((encodeFrame p (a ++ c :: b)).set a.length w).map unpack
      = (a ++ w :: b).map unpack ++ checkDigits (csum (a ++ c :: b)) := by
  simp [List.map_set]

theorem decodeFrame_one_changed (p : ParitySense) (a b : List Byte) {c w : Byte} {e : Char7} (he : e ≠ 0)
    (h : unpack w = unpack c ^^^ e) :
    decodeFrame ((encodeFrame p (a ++ c :: b)).set a.length w) = .checksumError := by
  rw [decodeFrame_of_digits (map_unpack_set_encodeFrame p a b c w) (by simp), if_neg]
  simpa [csum_changed_character a b h] using he

/-- The same pattern in two characters cancels in the checksum. -/
theorem csum_changed_pair (a b d : List Byte) {c₁ c₂ w₁ w₂ : Byte} {e : Char7} (h₁ : unpack w₁ = unpack c₁ ^^^ e)
    (h₂ : unpack w₂ = unpack c₂ ^^^ e) : csum (a ++ w₁ :: b ++ w₂ :: d) = csum (a ++ c₁ :: b ++ c₂ :: d) := by
  have first := csum_changed_character a (b ++ c₂ :: d) h₁
  have second := csum_changed_character (a ++ w₁ :: b) d h₂
  simp only [List.append_assoc, List.cons_append] at second ⊢
  rw [second, first, BitVec.xor_assoc, BitVec.xor_self, BitVec.xor_zero]

theorem decodeFrame_pair_changed (p : ParitySense) (a b d : List Byte) {c₁ c₂ w₁ w₂ : Byte} {e : Char7}
    (h₁ : unpack w₁ = unpack c₁ ^^^ e) (h₂ : unpack w₂ = unpack c₂ ^^^ e) :
    decodeFrame (((encodeFrame p (a ++ c₁ :: b ++ c₂ :: d)).set a.length w₁).set (a.length + 1 + b.length) w₂)
      = .ok ((a ++ w₁ :: b ++ w₂ :: d).map unpack ++ checkDigits (csum (a ++ c₁ :: b ++ c₂ :: d))) := by
  have received :
      (((encodeFrame p (a ++ c₁ :: b ++ c₂ :: d)).set a.length w₁).set (a.length + 1 + b.length) w₂).map unpack
        = (a ++ w₁ :: b ++ w₂ :: d).map unpack ++ checkDigits (csum (a ++ c₁ :: b ++ c₂ :: d)) := by
    have after : ¬ a.length + 1 + b.length < a.length := by omega
    have index : a.length + 1 + b.length - a.length = b.length + 1 := by omega
    simp [List.map_set, List.set_append, after, index]
  rw [decodeFrame_of_digits received (by simp), if_pos (csum_changed_pair a b d h₁ h₂)]

theorem map_unpack_modify_bit_seven (r : List Byte) (i : Nat) : (r.modify i (· ^^^ 0x80)).map unpack = r.map unpack := by
  apply List.ext_getElem?
  intro j
  by_cases h : i = j <;> simp [h, Function.comp_def]

/-- Settles O9: one pattern changes the checksum, two equal ones cancel, and bit 7 never reaches `decode`. -/
theorem singleErrorIsDetectedPairIsNot : Obligations.SingleErrorIsDetectedPairIsNot :=
  ⟨fun p a b _ _ _ he h => ⟨csum_changed_character a b h, decodeFrame_one_changed p a b he h⟩,
    fun p a b d _ _ _ _ _ => decodeFrame_pair_changed p a b d,
    fun r i => decodeFrame_congr (map_unpack_modify_bit_seven r i)⟩

/-! ### A whole message through the encoder (R91, R125) -/

theorem runCommands_message (m : List Byte) (s : State) (cleared : s.encAcc = 0)
    (h : ∀ d ∈ m, EncoderAccepts s.maskMode d) :
    runCommands (m.map Instr.encPush ++ [.encFinish 0x00]) s = .next { s with tx := s.tx ++ encodeFrame .odd m } := by
  rw [runCommands_append _ (runCommands_encPush m s h), runCommands_cons_accepted _ rfl, runCommands_nil]
  simp [effect, cleared, encodeFrame_eq, Config.paritySense, State.emitTx, State.setEncAcc]

/-- ENCODE clears the checksum first, so it emits the frame from every state. -/
theorem runCommands_encode (m : List Byte) (s : State) (h : ∀ d ∈ m, EncoderAccepts s.maskMode d) :
    runCommands (Pseudo.encode m).expand s = .next { s with encAcc := 0, tx := s.tx ++ encodeFrame .odd m } :=
  (runCommands_cons_accepted _ rfl).trans (runCommands_message m (s.setEncAcc 0) rfl h)

/-! ### A whole reply through the decoder (R91, R148) -/

theorem runCommands_decPush_expectation (bs : List Byte) {s t : State}
    (h : runCommands (bs.map Instr.decPush) s = .next t) :
    (t.expValid, t.expMark, t.expLen) = (s.expValid, s.expMark, s.expLen) := by
  induction bs generalizing s with
  | nil => cases h; rfl
  | cons b bs ih =>
    rw [List.map_cons, runCommands_cons_accepted _ rfl] at h
    simpa [effect] using ih h

/-- VERIFY latches the verdict on the history of the reply's characters, under the expectation of its letter. -/
theorem runCommands_verify (r : List Byte) (s : State) {letter : Byte}
    (h : commandError s.maskMode (.decInit letter) = none) :
    ∃ t, runCommands (Pseudo.verify letter r).expand s = .next (t.setStatusLow t.verdict)
      ∧ HoldsHistory t (r.map unpack) ∧ t.rx = s.rx ++ r.map unpack
      ∧ (t.expValid, t.expMark, t.expLen)
        = ((replyTable letter).valid, (replyTable letter).marker, (replyTable letter).length) := by
  obtain ⟨t, pushes, history, rx⟩ := runCommands_decPush r (holdsHistory_startReply s (replyTable letter))
  refine ⟨t, ?run, history, rx, runCommands_decPush_expectation r pushes⟩
  case run => exact (runCommands_cons_accepted _ h).trans (runCommands_append _ pushes)

/-- The verdict bits of raw mode for an answer of `decode` (R148): SHORT, CSUM or OK, with DONE. -/
def FrameResult.rawVerdict : FrameResult → BitVec 6
  | .invalid => 0x05
  | .checksumError => 0x09
  | .ok _ => 0x03

theorem exists_eq_append_pair {α : Type} {cs : List α} (h : 3 ≤ cs.length) :
    ∃ ds h1 h0, cs = ds ++ [h1, h0] ∧ ds ≠ [] := by
  obtain ⟨h1, h0, last⟩ : ∃ h1 h0, cs.drop (cs.length - 2) = [h1, h0] := List.length_eq_two.mp (by simp; omega)
  refine ⟨cs.take (cs.length - 2), h1, h0, by rw [← last, List.take_append_drop], ?nonempty⟩
  case nonempty => exact List.ne_nil_of_length_pos (by simp; omega)

section
variable {s : State} {cs : List Char7}

theorem HoldsHistory.isShort (h : HoldsHistory s cs) : s.isShort = decide (cs.length < 3) := by
  have count : s.decCnt < 3 ↔ cs.length < 3 := by
    have := h.decCnt_toNat
    bv_omega
  simp only [State.isShort, h.overflow, count]
  by_cases short : cs.length < 3
  · simp [short]; omega
  · simp [short]

/-- The decoder's comparison of the last two characters is that of `decode`. -/
theorem HoldsHistory.digits_iff {h1 h0 : Char7} (h : HoldsHistory s (cs ++ [h1, h0])) :
    (s.decH1, s.decH0) = hex2 s.decAcc ↔ checkDigits (xorAll cs) = [h1, h0] := by
  have last : s.decH0 = h0 := by simpa using h.last
  have beforeLast : s.decH1 = h1 := by simpa [List.dropLast_append] using h.beforeLast
  have others : s.decAcc = xorAll cs := by simpa [List.dropLast_append] using h.others
  rw [last, beforeLast, others, checkDigits, Prod.ext_iff]
  simp [eq_comm]

/-- In raw mode only SHORT and CSUM can fail. -/
theorem verdict_of_raw (raw : s.expValid = false) :
    s.verdict = if s.isShort then 0x05 else if s.csumWrong then 0x09 else 0x03 := by
  have short : s.isShort = true → s.csumWrong = false := fun h => by simp [State.csumWrong, h]
  have len : s.lenWrong = false := by simp [State.lenWrong, raw]
  have mark : s.markWrong = false := by simp [State.markWrong, raw]
  simp only [State.verdict, State.replyOk, State.isMalformed, len, mark]
  cases hs : s.isShort
  · cases s.csumWrong <;> rfl
  · rw [short hs]; rfl

/-- In raw mode the verdict is that of `decode`. -/
theorem HoldsHistory.verdict_raw {r : List Byte} (h : HoldsHistory s (r.map unpack)) (raw : s.expValid = false) :
    s.verdict = (decodeFrame r).rawVerdict := by
  have isShort : s.isShort = decide (r.length < 3) := by simpa using h.isShort
  rw [verdict_of_raw raw]
  by_cases short : r.length < 3
  · rw [decodeFrame_short short]
    simp [isShort, short, FrameResult.rawVerdict]
  · obtain ⟨cs, h1, h0, characters, ne⟩ := exists_eq_append_pair (cs := r.map unpack) (by simpa using short)
    have digits := (characters ▸ h).digits_iff
    rw [decodeFrame_of_append_pair characters ne]
    by_cases agree : checkDigits (xorAll cs) = [h1, h0] <;>
      simp [isShort, short, State.csumWrong, digits, agree, FrameResult.rawVerdict]

end

/-- Settles O48: ENCODE emits the frame (`runCommands_encode`), and in raw mode VERIFY gives the verdict of `decode` on it,
which the round trip of whole strings knows. -/
theorem encodedMessageVerifies : Obligations.EncodedMessageVerifies := by
  intro m s accepts
  obtain ⟨u, verified, history, -, raw⟩ :=
    runCommands_verify (encodeFrame .odd m) { s with encAcc := 0, tx := s.tx ++ encodeFrame .odd m } (letter := 0x00) rfl
  refine ⟨_, _, runCommands_encode m s accepts, by simpa using verified, ?verdict⟩
  case verdict =>
    rw [State.setStatusLow_statusLow, history.verdict_raw (congrArg Prod.fst raw)]
    split
    · next empty => rw [empty, decodeFrame_encodeFrame_nil]; rfl
    · next ne => rw [decodeFrame_encodeFrame .odd ne]; rfl

end Sys2Proof.Machine
end

section
/-!
PROOFS. The statements about the encoder commands (spec/41_encoder.md): each command, the frames of the families, a whole
message, and the pushes of a message with rejected characters.
-/

namespace Sys2Proof.Machine

/-! ### A whole message (R125) -/

/-- Settles O43: the pushes leave the checksum and the packed characters, and ENC_FINISH adds the digits
(`runCommands_message`, by induction on the message). -/
theorem encoderEmitsTheFrame : Obligations.EncoderEmitsTheFrame := runCommands_message

/-! ### The frames of the families (R120, R140, R171) -/

section
variable {i : Instr} {s t : State}

theorem SameDecoder.symm (h : SameDecoder s t) : SameDecoder t s :=
  ⟨h.decAcc.symm, h.decH1.symm, h.decH0.symm, h.decFirst.symm, h.decCnt.symm, h.decOvf.symm, h.expValid.symm,
    h.expMark.symm, h.expLen.symm, h.statusLow.symm, h.rx.symm⟩

theorem eq_after_of_exec (h : exec i s = .next t) : t = s.after i := by simpa [exec_eq_after] using h.symm

/-- What NOP, CFG and CLRERR leave alone: both sides but for the mask mode. -/
theorem control_frame {d : Byte} (control : i ∈ [.nop d, .cfg d, .clrerr d]) (s : State) :
    SameDecoder s (s.after i) ∧ (s.after i).encAcc = s.encAcc ∧ (s.after i).tx = s.tx := by
  obtain ⟨c, -, after⟩ | ⟨-, after⟩ := exec_cases (exec_eq_after i s)
  · rw [after]
    exact ⟨by constructor <;> simp, by simp, by simp⟩
  · rw [after]
    simp only [List.mem_cons, List.not_mem_nil, or_false] at control
    rcases control with rfl | rfl | rfl <;> exact ⟨by constructor <;> rfl, rfl, rfl⟩

/-- SRESET, accepted or not, leaves both streams. -/
theorem sreset_keeps_streams (d : Byte) (s : State) :
    (s.after (.sreset d)).tx = s.tx ∧ (s.after (.sreset d)).rx = s.rx := by
  obtain ⟨c, -, after⟩ | ⟨-, after⟩ := exec_cases (exec_eq_after (.sreset d) s) <;> simp [after, effect]

end

/-- Settles O35: the state after a command, family by family. -/
theorem familiesKeepToTheirState : Obligations.FamiliesKeepToTheirState := by
  intro i s t h
  obtain rfl := eq_after_of_exec h
  refine ⟨fun encoder => (sameDecoder_after_of_isEncoder encoder s).symm, fun decoder => ?decoder,
    fun d control => control_frame control s, ?sreset⟩
  case decoder =>
    have same := sameEncoder_after_of_isDecoder decoder s
    exact ⟨same.encAcc, same.tx⟩
  case sreset =>
    rintro d rfl
    exact sreset_keeps_streams d s

/-! ### The data rules (R74) -/

section
variable {i : Instr} {s : State} {d : Byte}

theorem exec_errorRecorded {c : CmdError} (h : commandError s.maskMode i = some c) :
    exec i s = .next (s.errorRecorded c.code) := by
  rw [exec_failing h, raise_eq_errorRecorded]

/-- A command whose data field must be zero records RESERVED_FIELD where it is not. -/
theorem exec_reservedField (rule : commandError s.maskMode i = zeroDataError d) (ne : d ≠ 0x00) :
    exec i s = .next (s.errorRecorded 4) :=
  exec_errorRecorded (c := .reservedField) (rule.trans (if_pos ne))

/-- A command whose data field must be a 7-bit character records DATA_NOT_7BIT under REJECT where it is not. -/
theorem exec_dataNot7Bit (rule : commandError s.maskMode i = sevenBitError s.maskMode d) (high : d[7] = true)
    (reject : s.maskMode = .reject) : exec i s = .next (s.errorRecorded 2) :=
  exec_errorRecorded (c := .dataNot7Bit) (rule.trans (if_pos ⟨high, reject⟩))

end

/-! ### The encoder commands one by one (R121 to R124) -/

/-- Settles O22: ENC_INIT's effect, and its data rule. -/
theorem encInitClearsChecksum : Obligations.EncInitClearsChecksum :=
  fun _ => ⟨rfl, fun _ ne => exec_reservedField rfl ne⟩

theorem exec_encPush_accepted {s : State} {d : Byte} (accepts : EncoderAccepts s.maskMode d) :
    exec (.encPush d) s
      = .next { s with encAcc := s.encAcc ^^^ unpack d, tx := s.tx ++ [pack .odd (unpack d)] } :=
  exec_accepted (sevenBitError_eq_none.mpr accepts.symm)

theorem exec_encPush_rejected {s : State} {d : Byte} (high : d[7] = true) (reject : s.maskMode = .reject) :
    exec (.encPush d) s = .next (s.errorRecorded 2) :=
  exec_dataNot7Bit rfl high reject

/-- Settles O23: ENC_PUSH's effect reads `unpack d` only, which drops bit 7, and its data rule. -/
theorem encPushAddsAndEmits : Obligations.EncPushAddsAndEmits := by
  refine fun s d => ⟨fun accepts => ?accepted, fun mask => ?flipped, exec_encPush_rejected⟩
  case accepted => simpa only [unpack_eq_setWidth] using exec_encPush_accepted accepts
  case flipped =>
    have same : unpack (d ^^^ 0x80) = unpack d := unpack_flip_bit_seven d
    rw [exec_encPush_accepted (.inr mask), exec_encPush_accepted (.inr mask), same]

/-- Settles O24: ENC_FINISH's effect with the digits as numbers (`hex2_eq`), and its data rule. -/
theorem encFinishEmitsTheDigits : Obligations.EncFinishEmitsTheDigits := by
  intro s
  have finish : exec (.encFinish 0x00) s = .next (s.finishMessage .odd) := exec_accepted rfl
  refine ⟨?digits, ?high, fun cleared => ?empty, fun _ ne => exec_reservedField rfl ne⟩
  case digits =>
    rw [finish, State.finishMessage_eq, hex2_eq]
    simp [State.emitTx, State.setEncAcc]
  case high => simpa only [hex2_eq] using (hex2_high_bounds s.encAcc).2
  case empty =>
    have digits : [pack .odd (hex2 0).1, pack .odd (hex2 0).2] = [0xB0, 0xB0] := by decide
    rw [finish, State.finishMessage_eq, cleared, ← digits]
    simp [State.emitTx, State.setEncAcc, cleared]

theorem exec_pack_accepted {s : State} {d : Byte} (accepts : EncoderAccepts s.maskMode d) :
    exec (.pack d) s = .next { s with result := (pack .odd (unpack d)).setWidth 16 } :=
  exec_accepted (sevenBitError_eq_none.mpr accepts.symm)

/-- Settles O25: PACK's effect, at the two corner bytes by computation, and its data rule. -/
theorem packWritesResultOnly : Obligations.PackWritesResultOnly := by
  refine fun s d => ⟨fun accepts => ?accepted,
    fun mask => ⟨exec_pack_accepted (.inr mask), exec_pack_accepted (.inr mask)⟩,
    fun high reject => exec_dataNot7Bit rfl high reject⟩
  case accepted =>
    rw [exec_pack_accepted accepts, unpack_eq_setWidth, BitVec.setWidth_eq_append (by decide)]
    rfl

/-! ### A message with rejected characters (R126) -/

/-- The state after `n` errors of one code: the first cause is kept, and there were more where a cause stood before them or
there were two (R192). -/
theorem iterate_errorRecorded {code : BitVec 3} (hcode : code ≠ 0#3) (n : Nat) (s : State) :
    (State.errorRecorded · code)^[n] s = { s with
      errCause := if s.errCause = 0 ∧ n ≠ 0 then code else s.errCause
      errMore := s.errMore || decide ((s.errCause ≠ 0 ∧ n ≠ 0) ∨ 2 ≤ n) } := by
  induction n with
  | zero => simp
  | succ n ih =>
    rw [Function.iterate_succ_apply', ih, State.errorRecorded]
    by_cases first : s.errCause = 0#3
    · cases n <;> simp [first, hcode]
    · simp [first]

/-- Under REJECT a list of pushes is the pushes of its accepted bytes, with one error recorded for each of the others. -/
theorem runCommands_encPush_reject (m : List Byte) {s : State} (reject : s.maskMode = .reject) :
    runCommands (m.map Instr.encPush) s
      = .next ((State.errorRecorded · 2)^[(m.filter fun d => d[7]).length] { s with
          encAcc := s.encAcc ^^^ csum (m.filter fun d => !d[7])
          tx := s.tx ++ (m.filter fun d => !d[7]).map fun d => pack .odd (unpack d) }) := by
  induction m generalizing s with
  | nil => simp
  | cons d m ih =>
    rw [List.map_cons]
    cases bit : d[7] with
    | true =>
      rw [runCommands_cons _ (exec_encPush_rejected bit reject), ih]
      · simp [bit, State.errorRecorded]
      · exact reject
    | false =>
      rw [runCommands_cons _ (exec_encPush_accepted (.inl bit)), ih]
      · simp [bit, BitVec.xor_assoc]
      · exact reject

/-- Settles O44: the errors of the rejected bytes (`runCommands_encPush_reject`) as one error record. -/
theorem rejectedCharactersDoNotEndTheMessage : Obligations.RejectedCharactersDoNotEndTheMessage := by
  intro m s reject
  rw [runCommands_encPush_reject m reject, iterate_errorRecorded (by decide)]
  simp only [ne_eq, List.length_eq_zero_iff]

end Sys2Proof.Machine
end

section
/-!
PROOFS. The statements about the decoder commands (spec/42_decoder.md): the verdict check by check, the reply of any length in
raw and in table mode, the values of the verdict and their reading by the host, and each command by itself.
-/

namespace Sys2Proof.Machine

/-! ### The verdict, check by check (R144) -/

section
variable {s : State}

theorem isShort_iff : s.isShort = true ↔ s.decOvf = false ∧ s.decCnt.toNat < 3 := by
  simp [State.isShort, BitVec.lt_def]

theorem csumWrong_iff : s.csumWrong = true ↔ ¬s.isShort = true ∧ (s.decH1, s.decH0) ≠ hex2 s.decAcc := by
  simp [State.csumWrong]

theorem lenWrong_iff : s.lenWrong = true ↔ s.expValid = true ∧ (s.decOvf = true ∨ s.decCnt ≠ s.expLen) := by
  simp [State.lenWrong]

theorem isMalformed_iff : s.isMalformed = true ↔ s.isShort = true ∨ s.csumWrong = true ∨ s.lenWrong = true := by
  simp [State.isMalformed, or_assoc]

theorem markWrong_iff :
    s.markWrong = true ↔ s.expValid = true ∧ ¬s.isMalformed = true ∧ s.decFirst ≠ s.expMark := by
  simp [State.markWrong, and_assoc]

theorem replyOk_iff : s.replyOk = true ↔ ¬s.isMalformed = true ∧ ¬s.markWrong = true := by
  simp [State.replyOk]

/-- In table mode an accepted reply passes the two checks of raw mode, and has the exact length and the marker. -/
theorem replyOk_iff_of_table (table : s.expValid = true) :
    s.replyOk = true ↔ (s.isShort = false ∧ s.csumWrong = false) ∧ (s.decOvf = false ∧ s.decCnt = s.expLen)
      ∧ s.decFirst = s.expMark := by
  simp only [replyOk_iff, markWrong_iff, isMalformed_iff, lenWrong_iff, table, true_and]
  rw [← Bool.not_eq_true s.isShort, ← Bool.not_eq_true s.csumWrong, ← Bool.not_eq_true s.decOvf]
  tauto

end

section
variable (s : State)

/-- The bits of a concatenation in the order of `State.verdict`. -/
theorem getElem_verdictBits : ∀ mark len csum short ok : Bool,
    let v := BitVec.ofBool mark ++ BitVec.ofBool len ++ BitVec.ofBool csum ++ BitVec.ofBool short ++ BitVec.ofBool ok ++ 1#1
    v[0] = true ∧ v[1] = ok ∧ v[2] = short ∧ v[3] = csum ∧ v[4] = len ∧ v[5] = mark := by
  decide

theorem verdict_bits :
    s.verdict[0] = true ∧ s.verdict[1] = s.replyOk ∧ s.verdict[2] = s.isShort ∧ s.verdict[3] = s.csumWrong
      ∧ s.verdict[4] = s.lenWrong ∧ s.verdict[5] = s.markWrong :=
  getElem_verdictBits _ _ _ _ _

theorem flagOk_eq : s.flagOk = s.statusLow[1] := status_getLsbD_low s (by decide)

theorem flagShort_eq : s.flagShort = s.statusLow[2] := status_getLsbD_low s (by decide)

theorem flagCsum_eq : s.flagCsum = s.statusLow[3] := status_getLsbD_low s (by decide)

theorem flagLen_eq : s.flagLen = s.statusLow[4] := status_getLsbD_low s (by decide)

theorem flagMark_eq : s.flagMark = s.statusLow[5] := status_getLsbD_low s (by decide)

/-- The state after DEC_CHECK, whose flags are the checks of the state before it. -/
abbrev State.checked : State := s.setStatusLow s.verdict

theorem exec_decCheck : exec (.decCheck 0x00) s = .next s.checked := rfl

theorem checked_flags :
    s.checked.flagDone = true ∧ s.checked.flagOk = s.replyOk ∧ s.checked.flagShort = s.isShort
      ∧ s.checked.flagCsum = s.csumWrong ∧ s.checked.flagLen = s.lenWrong ∧ s.checked.flagMark = s.markWrong := by
  rw [flagDone_eq, flagOk_eq, flagShort_eq, flagCsum_eq, flagLen_eq, flagMark_eq]
  exact verdict_bits s

end

/-! ### A reply of any length in raw mode (R148) -/

/-- The bits SHORT, CSUM, OK, LEN and MARK of a raw verdict. -/
theorem FrameResult.rawVerdict_bits (f : FrameResult) :
    (f.rawVerdict[2] = true ↔ f = .invalid) ∧ (f.rawVerdict[3] = true ↔ f = .checksumError)
      ∧ (f.rawVerdict[1] = true ↔ ∃ cs, f = .ok cs) ∧ f.rawVerdict[4] = false ∧ f.rawVerdict[5] = false := by
  cases f <;> simp [FrameResult.rawVerdict]

/-- Settles O46: VERIFY latches the verdict on the whole reply's history, which in raw mode is that of `decode`
(`HoldsHistory.verdict_raw`). -/
theorem rawModeAgreesWithDecode : Obligations.RawModeAgreesWithDecode := by
  intro r s
  obtain ⟨t, run, history, rx, raw⟩ := runCommands_verify r s (letter := 0x00) rfl
  have verdict : t.verdict = (decodeFrame r).rawVerdict := history.verdict_raw (congrArg Prod.fst raw)
  obtain ⟨short, csum, ok, len, mark⟩ := (decodeFrame r).rawVerdict_bits
  refine ⟨_, run, ?_⟩
  rw [flagShort_eq, flagCsum_eq, flagOk_eq, flagLen_eq, flagMark_eq]
  simp only [State.setStatusLow_statusLow, State.setStatusLow_rx, verdict]
  exact ⟨short, csum, ok, len, mark, rx⟩

/-! ### A reply of any length in table mode (R149, R150) -/

section
variable {s : State} {cs : List Char7} {r : List Byte}

/-- The two checks on the reply's own characters are those of `decode`, whatever is expected. -/
theorem HoldsHistory.decodes_iff (h : HoldsHistory s (r.map unpack)) :
    s.isShort = false ∧ s.csumWrong = false ↔ ∃ cs, decodeFrame r = .ok cs := by
  have history : HoldsHistory { s with expValid := false } (r.map unpack) := { h with }
  have verdict : (decodeFrame r).rawVerdict = if s.isShort then 0x05 else if s.csumWrong then 0x09 else 0x03 :=
    (history.verdict_raw rfl).symm.trans (verdict_of_raw rfl)
  obtain ⟨-, -, ok, -⟩ := (decodeFrame r).rawVerdict_bits
  rw [← ok, verdict]
  cases s.isShort <;> cases s.csumWrong <;> decide

/-- The count of R30 with its overflow bit is exact for every expected length. -/
theorem HoldsHistory.length_iff (h : HoldsHistory s cs) (len : BitVec 8) :
    s.decOvf = false ∧ s.decCnt = len ↔ cs.length = len.toNat := by
  have count := h.decCnt_toNat
  have byte := len.isLt
  rw [h.overflow, decide_eq_false_iff_not, ← BitVec.toNat_inj]
  omega

theorem HoldsHistory.first_iff (h : HoldsHistory s cs) (long : s.isShort = false) (m : Char7) :
    s.decFirst = m ↔ cs.head? = some m := by
  rw [h.isShort] at long
  cases cs with
  | nil => cases long
  | cons c cs => simp [h.first]

end

theorem commandError_decInit_of_valid (mode : MaskMode) {d : Byte} (h : (replyTable d).valid = true) :
    commandError mode (.decInit d) = none := by
  have ne : d ≠ 0x00 := by rintro rfl; cases h
  rw [commandError, decInitSelect, if_neg ne, if_pos h]

/-- Settles O47: VERIFY latches the verdict on the reply's history under the letter's row, and there OK is the checks of
`decode`, the exact length and the marker (`replyOk_iff_of_table`). -/
theorem tableModeAcceptsExactlyTheReply : Obligations.TableModeAcceptsExactlyTheReply := by
  intro r s letter m len row
  obtain ⟨t, run, history, -, expected⟩ :=
    runCommands_verify r s (letter := letter) (commandError_decInit_of_valid _ (by rw [row]))
  simp only [row, Prod.mk.injEq] at expected
  obtain ⟨table, marker, length⟩ := expected
  have exactLength : t.decOvf = false ∧ t.decCnt = t.expLen ↔ r.length = len.toNat := by
    simpa [length] using history.length_iff len
  obtain ⟨-, ok, -⟩ := checked_flags t
  refine ⟨_, run, ?_⟩
  rw [ok, replyOk_iff_of_table table, exactLength, marker, ← history.decodes_iff]
  exact and_congr_right fun checks => and_congr_right fun _ => history.first_iff checks.1 m

/-! ### DEC_CHECK (R144, R145) -/

/-- Settles O28: each bit is its check (`verdict_bits`), and each check is the condition of R144. -/
theorem decCheckLatchesTheVerdict : Obligations.DecCheckLatchesTheVerdict := by
  intro s
  obtain ⟨done, ok, short, csum, len, mark⟩ := verdict_bits s
  have malformed := @isMalformed_iff s
  refine ⟨s.verdict, exec_decCheck s, done, ?_⟩
  rw [ok, short, csum, len, mark, ← isShort_iff]
  refine ⟨Iff.rfl, csumWrong_iff, lenWrong_iff, ?mark, ?ok⟩
  case mark => rw [← malformed]; exact markWrong_iff
  case ok => rw [replyOk_iff, malformed]; tauto

section
variable {s : State}

theorem csumWrong_of_isShort (h : s.isShort = true) : s.csumWrong = false := by simp [State.csumWrong, h]

theorem markWrong_of_isMalformed (h : s.isMalformed = true) : s.markWrong = false := by simp [State.markWrong, h]

/-- The checks that hide others: SHORT hides CSUM, and each of SHORT, CSUM and LEN hides MARK. -/
theorem verdict_eq (s : State) :
    s.verdict =
      if s.isShort then (if s.lenWrong then 0x15 else 0x05)
      else if s.csumWrong then (if s.lenWrong then 0x19 else 0x09)
      else if s.lenWrong then 0x11
      else if s.markWrong then 0x21 else 0x03 := by
  have hidesCsum := @csumWrong_of_isShort s
  have hidesMark := @markWrong_of_isMalformed s
  simp only [State.verdict, State.replyOk, State.isMalformed] at hidesMark ⊢
  generalize s.isShort = short, s.csumWrong = csum, s.lenWrong = len, s.markWrong = mark at *
  revert short csum len mark
  decide

theorem verdict_mem (s : State) : s.verdict ∈ [0x03, 0x05, 0x09, 0x11, 0x15, 0x19, 0x21#6] := by
  rw [verdict_eq]
  repeat' split
  all_goals decide

/-- The state with the reply `r` received from reset on, under the expectation of `letter`. -/
def State.received (letter : Byte) (r : List Byte) : State :=
  (.decInit letter :: r.map Instr.decPush).foldl State.after State.reset

theorem inv_foldl_after (is : List Instr) (h : Inv s) : Inv (is.foldl State.after s) := by
  induction is generalizing s with
  | nil => exact h
  | cons i is ih => exact ih (inv_exec h (exec_eq_after i s))

theorem verdict_occurs {v : BitVec 6} (letter : Byte) (r : List Byte) (h : (State.received letter r).verdict = v) :
    ∃ s t : State, Inv s ∧ exec (.decCheck 0x00) s = .next t ∧ t.statusLow = v :=
  ⟨_, _, inv_foldl_after _ inv_reset, exec_decCheck _, h⟩

/-- Without characters only the length can be wrong besides SHORT. -/
theorem verdict_of_empty (cnt : s.decCnt = 0) (ovf : s.decOvf = false) :
    s.verdict = if s.lenWrong then 0x15 else 0x05 := by
  have short : s.isShort = true := by simp [State.isShort, cnt, ovf]
  rw [verdict_eq, if_pos short]

end

/-- Settles O29: `verdict_eq` names the seven values; `"v76"`, `"v00"` and the empty reply take them, in raw mode and under
the letters V (the wrong length) and L (the wrong marker). -/
theorem verdictHasSevenValues : Obligations.VerdictHasSevenValues := by
  refine ⟨?values, ?occur, fun s cnt ovf => ⟨fun raw => ?emptyRaw, fun table len => ?emptyTable⟩,
    fun _ _ => exec_reservedField rfl⟩
  case values =>
    intro s t h
    cases h
    refine ⟨rfl, verdict_mem s, ?_⟩
    rw [exec_decCheck, State.checked, State.setStatusLow_verdict]
    rfl
  case occur =>
    simp only [List.forall_mem_cons]
    exact ⟨verdict_occurs 0x00 [0x76, 0x37, 0x36] (by decide), verdict_occurs 0x00 [] (by decide),
      verdict_occurs 0x00 [0x76, 0x30, 0x30] (by decide), verdict_occurs 0x56 [0x76, 0x37, 0x36] (by decide),
      verdict_occurs 0x56 [] (by decide), verdict_occurs 0x56 [0x76, 0x30, 0x30] (by decide),
      verdict_occurs 0x4C [0x76, 0x37, 0x36] (by decide), nofun⟩
  case emptyRaw =>
    have length : s.lenWrong = false := by simp [State.lenWrong, raw]
    rw [exec_decCheck, State.checked, verdict_of_empty cnt ovf, length]
    rfl
  case emptyTable =>
    have length : s.lenWrong = true := lenWrong_iff.mpr ⟨table, .inr (by rw [cnt]; exact len.symm)⟩
    rw [exec_decCheck, State.checked, verdict_of_empty cnt ovf, length]
    rfl

/-! ### How the host reads the verdict (R146, R150, R194, R195) -/

theorem checked_replyOutcome (s : State) :
    s.checked.replyOutcome
      = if s.isMalformed then .malformed else if s.markWrong then .unexpectedReply else .accepted := by
  obtain ⟨done, -, short, csum, len, mark⟩ := checked_flags s
  rw [State.replyOutcome, done, short, csum, len, mark]
  rfl

/-- Settles O40: after DEC_CHECK one of three cases holds, a malformed reply, a wrong marker on a well-formed one, or an
accepted reply. -/
theorem verdictReadsAsTheErrorTaxonomy : Obligations.VerdictReadsAsTheErrorTaxonomy := by
  refine ⟨fun s t h => ?check, fun s t b h => ?push⟩
  case check =>
    cases h
    have malformed := @isMalformed_iff s
    have hidesMark := @markWrong_of_isMalformed s
    have hidesCsum := @csumWrong_of_isShort s
    obtain ⟨-, ok, short, csum, len, mark⟩ := checked_flags s
    rw [checked_replyOutcome, short, csum, len, mark, ok, replyOk_iff, ← malformed]
    by_cases bad : s.isMalformed = true
    · simpa [bad, hidesMark bad] using hidesCsum
    · simp only [malformed, not_or, Bool.not_eq_true] at bad
      cases s.markWrong <;> simp [State.isMalformed, bad]
  case push =>
    cases h
    rw [State.replyOutcome, flagDone_false_of_statusLow rfl]
    rfl

/-- Settles O41: OK is the accepted reply, and in table mode that has the exact length (`replyOk_iff_of_table`). -/
theorem noPartialReplyIsAccepted : Obligations.NoPartialReplyIsAccepted := by
  intro s t table h ok
  cases h
  obtain ⟨-, okBit, -⟩ := checked_flags s
  obtain ⟨-, ⟨noOverflow, count⟩, -⟩ := (replyOk_iff_of_table table).mp (okBit.symm.trans ok)
  exact ⟨count, noOverflow⟩

/-! ### DEC_INIT and LOOKUP (R141, R142, R147) -/

/-- The reply table has the rows of the six letters and no other (R84). -/
theorem replyTable_of_not_mem {d : Byte} (h : d ∉ [0x56, 0x53, 0x4C, 0x58, 0x57, 0x52]) : replyTable d = noEntry := by
  simp only [List.mem_cons, List.not_mem_nil, or_false, not_or] at h
  simp only [replyTable, h, if_false]

theorem commandError_decInit_of_not_mem (mode : MaskMode) {d : Byte} (ne : d ≠ 0x00)
    (h : d ∉ [0x56, 0x53, 0x4C, 0x58, 0x57, 0x52]) : commandError mode (.decInit d) = some .unknownCmd := by
  rw [commandError, decInitSelect, if_neg ne, replyTable_of_not_mem h]
  rfl

/-- Settles O26: the seven legal values compute, and any other is in no row of the table. -/
theorem decInitSelectsTheReply : Obligations.DecInitSelectsTheReply := by
  refine ⟨fun s d v m l row => ?row, fun s d other => ?other⟩
  case row =>
    simp only [List.mem_cons, List.not_mem_nil, or_false, Prod.mk.injEq] at row
    rcases row with ⟨rfl, rfl, rfl, rfl⟩ | ⟨rfl, rfl, rfl, rfl⟩ | ⟨rfl, rfl, rfl, rfl⟩ | ⟨rfl, rfl, rfl, rfl⟩
      | ⟨rfl, rfl, rfl, rfl⟩ | ⟨rfl, rfl, rfl, rfl⟩ | ⟨rfl, rfl, rfl, rfl⟩ <;> exact ⟨rfl, rfl⟩
  case other =>
    obtain ⟨ne, noRow⟩ := List.ne_and_not_mem_of_not_mem_cons other
    exact ⟨exec_errorRecorded (commandError_decInit_of_not_mem _ ne noRow), replyTable_of_not_mem noRow⟩

/-- Settles O30: the six rows compute, and any other value is in none of them. -/
theorem lookupReadsTheReplyTable : Obligations.LookupReadsTheReplyTable := by
  refine ⟨fun s d r row => ?row, fun s d other => ?other⟩
  case row =>
    simp only [List.mem_cons, List.not_mem_nil, or_false, Prod.mk.injEq] at row
    rcases row with ⟨rfl, rfl⟩ | ⟨rfl, rfl⟩ | ⟨rfl, rfl⟩ | ⟨rfl, rfl⟩ | ⟨rfl, rfl⟩ | ⟨rfl, rfl⟩ <;> rfl
  case other =>
    rw [exec_accepted rfl, effect, replyTable_of_not_mem other]
    rfl

/-! ### DEC_PUSH (R143) -/

/-- The count saturates at 255 (R30). -/
theorem decCnt_succ_saturating (n : BitVec 8) :
    (if n = 255 then n else n + 1) = BitVec.ofNat 8 (min (n.toNat + 1) 255) := by
  split <;> bv_omega

/-- Settles O27: the writes of `State.acceptChar` with the count as a number, and `unpack` drops bit 7. -/
theorem decPushShiftsTheHistory : Obligations.DecPushShiftsTheHistory := by
  refine fun s b => ⟨?shift, ?flipped⟩
  case shift =>
    have two : s.decCnt.toNat < 2 ↔ ¬ 2 ≤ s.decCnt := by bv_omega
    have noChars : s.decCnt.toNat = 0 ↔ s.decCnt = 0 := by bv_omega
    have full : s.decCnt.toNat = 255 ↔ s.decCnt = 255 := by bv_omega
    have overflow : (if s.decCnt = 255 then true else s.decOvf) = (s.decOvf || decide (s.decCnt = 255)) := by
      by_cases h : s.decCnt = 255
      · rw [if_pos h, decide_eq_true h, Bool.or_true]
      · rw [if_neg h, decide_eq_false h, Bool.or_false]
    rw [← decCnt_succ_saturating, ← unpack_eq_setWidth]
    simp only [two, noChars, full, ite_not, ← overflow]
    rfl
  case flipped =>
    have same : unpack (b ^^^ 0x80) = unpack b := unpack_flip_bit_seven b
    rw [exec_accepted rfl, exec_accepted rfl, effect, effect, same]

end Sys2Proof.Machine
end

section
/-!
PROOFS. The statements about the control commands (spec/43_control.md): NOP, CLRERR, SRESET, and the reserved operations.
-/

namespace Sys2Proof.Machine

/-! ### The reserved operations (R175) -/

/-- Settles O20: the error of each reserved operation is RESERVED_OP whatever its data field, and the update of the state in
the statement is that of `State.errorRecorded` with its code. -/
theorem reservedOperationsOnlyRaise : Obligations.ReservedOperationsOnlyRaise := by
  intro s d i reserved
  have failing : commandError s.maskMode i = some .reservedOp := by
    simp only [List.mem_cons, List.not_mem_nil, or_false] at reserved
    rcases reserved with rfl | rfl | rfl | rfl <;> rfl
  exact exec_errorRecorded failing

/-! ### NOP (R170) -/

/-- Settles O31: NOP's effect is the state itself, and its data rule. -/
theorem nopChangesNothing : Obligations.NopChangesNothing :=
  fun _ => ⟨exec_accepted rfl, fun _ ne => exec_reservedField rfl ne⟩

/-! ### CLRERR (R173) -/

/-- Where a cause stands, a further error only says that there was another (R192). -/
theorem errorRecorded_of_cause {s : State} (code : BitVec 3) (cause : s.errCause ≠ 0) :
    s.errorRecorded code = { s with errMore := true } := by
  simp only [State.errorRecorded, if_neg cause, decide_eq_true cause, Bool.or_true]

/-- Settles O33: CLRERR's effect read through `STATUS` (`status_bit_seven`, `status_low`), and its data rule, whose error falls
on the old record. -/
theorem clrerrEndsTheErrorRecord : Obligations.ClrerrEndsTheErrorRecord := by
  refine ⟨fun s => ⟨s.clearErrors, exec_accepted rfl, rfl, ?err, ?verdict⟩, fun s d ne => ?refused⟩
  case err => rw [status_bit_seven, State.clearErrors_errCause]; rfl
  case verdict => rw [status_low, status_low, State.clearErrors_statusLow]
  case refused =>
    have records : exec (.clrerr d) s = .next (s.errorRecorded 4) := exec_reservedField rfl ne
    exact ⟨records, fun cause => by rw [records, errorRecorded_of_cause 4 cause]⟩

/-! ### SRESET (R174) -/

/-- Settles O34: SRESET's effect is `State.resetRegisters`, which computes to the reset value of each register, and its data
rule. -/
theorem sresetKeepsOnlyTheStreams : Obligations.SresetKeepsOnlyTheStreams := by
  intro s
  have resets : exec (.sreset 0x00) s = .next s.resetRegisters := exec_accepted rfl
  exact ⟨resets, resets, fun _ ne => exec_reservedField rfl ne⟩

end Sys2Proof.Machine
end

section
/-!
PROOFS. The statements about command errors (spec/60_exceptions.md): the code each failing command records, and that the error
record blocks nothing.
-/

namespace Sys2Proof.Machine

/-! ### The recorded code (R191) -/

/-- The code recorded is that of the first error; an effect keeps the record or empties it. -/
theorem errCause_of_exec {i : Instr} {s t : State} (h : exec i s = .next t) :
    t.errCause = s.errCause ∨ t.errCause.toNat ≤ 4 := by
  obtain ⟨c, -, rfl⟩ | ⟨-, rfl⟩ := exec_cases h
  · rw [State.raise_errCause]
    split
    · exact .inr c.code_le_four
    · exact .inl rfl
  · cases i with
    | clrerr | sreset => exact .inr (Nat.zero_le 4)
    | _ => exact .inl rfl

/-! ### What the error record does not reach (R192)

Two states agree but for their error records when `State.clearErrors` makes them equal. -/

theorem update_errors_of_clearErrors_eq {s t : State} (h : s.clearErrors = t.clearErrors) :
    { s with errCause := t.errCause, errMore := t.errMore } = t :=
  congrArg (fun u : State => { u with errCause := t.errCause, errMore := t.errMore }) h

theorem clearErrors_raise (s : State) (c : CmdError) : (s.raise c).clearErrors = s.clearErrors := by
  rw [raise_eq_errorRecorded]
  rfl

/-- But for the error record itself, no effect depends on the error record. -/
theorem clearErrors_effect (i : Instr) (s : State) : (effect i s.clearErrors).clearErrors = (effect i s).clearErrors := by
  cases i <;> rfl

/-- But for the error record itself, what a command leaves does not depend on the error record: the data rules do not read it,
and neither does an effect. -/
theorem clearErrors_after (s : State) (i : Instr) : (s.clearErrors.after i).clearErrors = (s.after i).clearErrors := by
  rw [State.after, State.after, State.clearErrors_maskMode]
  cases commandError s.maskMode i with
  | some c => exact (clearErrors_raise _ c).trans (clearErrors_raise s c).symm
  | none => exact clearErrors_effect i s

theorem after_congr_of_clearErrors_eq {s t : State} (h : s.clearErrors = t.clearErrors) (i : Instr) :
    (s.after i).clearErrors = (t.after i).clearErrors := by
  rw [← clearErrors_after s, h, clearErrors_after t]

/-- Settles O19: each data rule names its error (`exec_errorRecorded`), and commands that start from two error records leave
states that differ in the error record only (`after_congr_of_clearErrors_eq`). -/
theorem eachFailingCommandRecordsItsCode : Obligations.EachFailingCommandRecordsItsCode := by
  refine ⟨fun _ _ _ => errCause_of_exec, fun i s cause more => ?blocksNothing,
    fun s d => ⟨?reserved, fun high reject => ?dataNot7Bit, fun other => ?unknownCmd, fun ne => ?zeroData,
      fun ne => ?cfg⟩⟩
  case blocksNothing =>
    have same : State.clearErrors { s with errCause := cause, errMore := more } = s.clearErrors := rfl
    exact ⟨_, _, exec_eq_after i s, exec_eq_after i _,
      update_errors_of_clearErrors_eq (after_congr_of_clearErrors_eq same i)⟩
  case reserved =>
    have records {i : Instr} (h : commandError s.maskMode i = some .reservedOp) : exec i s = .next (s.errorRecorded 1) :=
      exec_errorRecorded h
    exact ⟨records rfl, records rfl, records rfl, records rfl⟩
  case dataNot7Bit => exact ⟨exec_dataNot7Bit rfl high reject, exec_dataNot7Bit rfl high reject⟩
  case unknownCmd => exact (decInitSelectsTheReply.2 s d other).1
  case zeroData =>
    have records {i : Instr} (rule : commandError s.maskMode i = zeroDataError d) : exec i s = .next (s.errorRecorded 4) :=
      exec_reservedField rule ne
    exact ⟨records rfl, records rfl, records rfl, records rfl, records rfl, records rfl⟩
  case cfg =>
    have rule : commandError s.maskMode (.cfg d) = some .reservedField := if_pos ne
    exact exec_errorRecorded rule

end Sys2Proof.Machine
end

section
/-!
PROOFS. The statement about the reset input and the idle step (spec/70_reset_and_hazards.md).
-/

namespace Sys2Proof.Machine

theorem step_reset {s : State} {later : List Input} (h : s.pending = .reset :: later) :
    step s = .next (State.resetRegisters { s with pending := later }) := by
  simp [step, h]

theorem step_idle {s : State} (h : s.pending = []) : step s = .next s := by
  simp [step, h]

/-- Settles O15: the reset arm of `step` answers `State.resetRegisters`, which is what an accepted SRESET answers
(`sresetKeepsOnlyTheStreams`). -/
theorem resetInputActsAsSreset : Obligations.ResetInputActsAsSreset := by
  refine ⟨fun s later pulse => ⟨?registers, ?sreset⟩, fun _ => step_idle⟩
  case registers => exact step_reset pulse
  case sreset =>
    obtain ⟨-, sreset, -⟩ := sresetKeepsOnlyTheStreams { s with pending := later }
    exact (step_reset pulse).trans sreset.symm

end Sys2Proof.Machine
end
